-- ==== Sys2Proof/Word.lean ====
section
/-! DEFINITION. The value types of the machine: a byte of the frame buffer and the two address shapes.
Lengths and offsets are naturals below `2 ^ LEN_W` (`00` R9, R11): LEN_W is a parameter of the
hardware, so they are `Nat` with that bound as an invariant, not bit vectors. -/

namespace Sys2Proof

/-- One byte of the frame buffer (`20` R71). -/
abbrev Byte := BitVec 8

/-- A hardware address: DST_MAC, SRC_MAC, ARP_SMAC, ARP_TMAC (`10` R31, R32, R41). -/
abbrev Mac := BitVec 48

/-- A network address register: SRC_ADDR, DST_ADDR (`10` R37). -/
abbrev Addr := BitVec 128

end Sys2Proof
end

