-- ==== Sys2Proof/Config.lean ====
section
/-! DEFINITION. The configuration: every constant of `00` R7 and every parameter of R8 as a named
field, and the values the spec leaves unspecified. The values that R7 and R8 give the constants
stand in `Machine/Layout.lean`. -/

namespace Sys2Proof

/-- The OPEN parameters of `00` R8: what differs from one machine to another. A state carries them as
plain data and no step writes them (`10` R20), so a statement about every state holds for every value
of the parameters. Assumption log 1. -/
structure Params where
  /-- LEN_W: width in bits of every length and offset register (D3). -/
  lenW : Nat
  /-- ICMP_MIN_LEN (D18). -/
  icmpMinLen : Nat
  /-- ICMP6_MIN_LEN (D18). -/
  icmp6MinLen : Nat
deriving DecidableEq, Repr

/-- A field of a view: its offset from the start of the view and its size, both in bytes. -/
structure Slice where
  off : Nat
  size : Nat
deriving DecidableEq, Repr

/-- The constants of `00` R7, the decided ones of R8, and the field offsets of `30` R105 to R107, each
under the rule's name. Lengths are in bytes. -/
structure Constants where
  /-- ETH_HDR_LEN. -/
  ethHdrLen : Nat
  /-- ETH_OFF_DST. -/
  ethOffDst : Slice
  /-- ETH_OFF_SRC. -/
  ethOffSrc : Slice
  /-- ETH_OFF_TAG. -/
  ethOffTag : Slice
  /-- ETH_OFF_ETYPE. -/
  ethOffEtype : Slice
  /-- IPV4_MIN_LEN. -/
  ipv4MinLen : Nat
  /-- IPV4_OFF_PROTO. -/
  ipv4OffProto : Slice
  /-- IPV4_OFF_SRC. -/
  ipv4OffSrc : Slice
  /-- IPV4_OFF_DST. -/
  ipv4OffDst : Slice
  /-- IPV6_MIN_LEN. -/
  ipv6MinLen : Nat
  /-- IPV6_OFF_NH. -/
  ipv6OffNh : Slice
  /-- IPV6_OFF_SRC. -/
  ipv6OffSrc : Slice
  /-- IPV6_OFF_DST. -/
  ipv6OffDst : Slice
  /-- ARPNET_MIN_LEN (`00` R8, D15). -/
  arpnetMinLen : Nat
  /-- ARPNET_OFF_SRC. -/
  arpnetOffSrc : Slice
  /-- ARPNET_OFF_DST. -/
  arpnetOffDst : Slice
  /-- ARPNET_CONSUMED. -/
  arpnetConsumed : Nat
  /-- ARP_MIN_LEN. -/
  arpMinLen : Nat
  /-- ARP_OFF_OPCODE. -/
  arpOffOpcode : Slice
  /-- ARP_OFF_SMAC. -/
  arpOffSmac : Slice
  /-- ARP_OFF_TMAC. -/
  arpOffTmac : Slice
  /-- ETYPE_IPV4. -/
  etypeIpv4 : BitVec 16
  /-- ETYPE_ARP. -/
  etypeArp : BitVec 16
  /-- ETYPE_IPV6. -/
  etypeIpv6 : BitVec 16
  /-- PROTO_ICMP. -/
  protoIcmp : BitVec 8
  /-- PROTO_TCP. -/
  protoTcp : BitVec 8
  /-- PROTO_UDP. -/
  protoUdp : BitVec 8
  /-- PROTO_ICMP6. -/
  protoIcmp6 : BitVec 8
  /-- TCP_MIN_LEN (`00` R8, D16). -/
  tcpMinLen : Nat
  /-- TCP source port (`30` R105). -/
  tcpOffSport : Slice
  /-- TCP destination port. -/
  tcpOffDport : Slice
  /-- TCP sequence number. -/
  tcpOffSeq : Slice
  /-- TCP acknowledgment number. -/
  tcpOffAck : Slice
  /-- TCP flags. -/
  tcpOffFlags : Slice
  /-- TCP window. -/
  tcpOffWindow : Slice
  /-- UDP_MIN_LEN (`00` R8, D17). -/
  udpMinLen : Nat
  /-- UDP source port (`30` R106). -/
  udpOffSport : Slice
  /-- UDP destination port. -/
  udpOffDport : Slice
  /-- UDP length. -/
  udpOffLen : Slice
  /-- UDP checksum. -/
  udpOffCsum : Slice
  /-- ICMP and ICMPv6 type (`30` R107). -/
  icmpOffType : Slice
  /-- ICMP and ICMPv6 code. -/
  icmpOffCode : Slice
deriving DecidableEq, Repr

/-- The configuration of a machine (`00` R7, R8). The only configurations in use are those that
`Params.config` makes of the open parameters, where every constant has the value the spec gives it. -/
structure Config extends Params, Constants
deriving DecidableEq, Repr

/-- FRAME_MAX, the largest frame length and the size of the frame buffer in bytes (`00` R8). -/
def Config.frameMax (c : Config) : Nat := 2 ^ c.lenW - 1

/-- The bounds of `00` R8 on the OPEN parameters. -/
abbrev Config.ok (c : Config) : Prop :=
  7 ≤ c.lenW ∧ (2 ≤ c.icmpMinLen ∧ c.icmpMinLen ≤ 8) ∧ (2 ≤ c.icmp6MinLen ∧ c.icmp6MinLen ≤ 8)

/-- The open parameters of `State.reset`: the spec's defaults 2 and 2 for the ICMP lengths, and a
LEN_W of 16. DESIGN CHOICE (the spec leaves LEN_W open), unsafe for a claim about `State.reset`
that rests on the number 16. Assumption log 1. -/
def Params.atReset : Params := { lenW := 16, icmpMinLen := 2, icmp6MinLen := 2 }

/-- FREE VALUE. What byte `i` of FB holds while the host has not written it since the reset with
number `resets` (`10` R48, `70` R322: "any value per byte"). It has no body: nothing can be
proved of a value. DESIGN CHOICE, safe. Assumption log 2. -/
opaque Config.freeByte (resets i : Nat) : Byte

/-- FREE VALUE. What the `n`th unspecified register read returns, before it is cut to the
register's width (`47` R238: "any value of the register's width, not necessarily the same on two
reads"). DESIGN CHOICE, safe. Assumption log 3. -/
opaque Config.freeRead (n : Nat) : Nat

end Sys2Proof
end

