-- ==== Sys2Proof/Machine/Layout.lean ====
section
/-! DEFINITION. The value of every constant of the configuration, as the tables of `00` R7 and R8 and
of `30` R105 to R107 give it. A field of a view is written as its offset and its size. -/

namespace Sys2Proof

/-- The tables of `00` R7 and R8 (ARPNET_MIN_LEN, TCP_MIN_LEN, UDP_MIN_LEN decided by D15, D16, D17) and
of `30` R105 to R107. -/
@[simps] def Constants.given : Constants where
  ethHdrLen := 18
  ethOffDst := ⟨0, 6⟩
  ethOffSrc := ⟨6, 6⟩
  ethOffTag := ⟨12, 4⟩
  ethOffEtype := ⟨16, 2⟩
  ipv4MinLen := 20
  ipv4OffProto := ⟨9, 1⟩
  ipv4OffSrc := ⟨12, 4⟩
  ipv4OffDst := ⟨16, 4⟩
  ipv6MinLen := 40
  ipv6OffNh := ⟨6, 1⟩
  ipv6OffSrc := ⟨8, 16⟩
  ipv6OffDst := ⟨24, 16⟩
  arpnetMinLen := 20
  arpnetOffSrc := ⟨12, 4⟩
  arpnetOffDst := ⟨16, 4⟩
  arpnetConsumed := 20
  arpMinLen := 24
  arpOffOpcode := ⟨6, 2⟩
  arpOffSmac := ⟨8, 6⟩
  arpOffTmac := ⟨18, 6⟩
  etypeIpv4 := 0x0800#16
  etypeArp := 0x0806#16
  etypeIpv6 := 0x86DD#16
  protoIcmp := 1#8
  protoTcp := 6#8
  protoUdp := 17#8
  protoIcmp6 := 58#8
  tcpMinLen := 20
  tcpOffSport := ⟨0, 2⟩
  tcpOffDport := ⟨2, 2⟩
  tcpOffSeq := ⟨4, 4⟩
  tcpOffAck := ⟨8, 4⟩
  tcpOffFlags := ⟨13, 1⟩
  tcpOffWindow := ⟨14, 2⟩
  udpMinLen := 8
  udpOffSport := ⟨0, 2⟩
  udpOffDport := ⟨2, 2⟩
  udpOffLen := ⟨4, 2⟩
  udpOffCsum := ⟨6, 2⟩
  icmpOffType := ⟨0, 1⟩
  icmpOffCode := ⟨1, 1⟩

/-- The configuration of a machine with the open parameters `p`. -/
def Params.config (p : Params) : Config := { p, Constants.given with }

@[simp] theorem Params.config_toConstants (p : Params) : p.config.toConstants = Constants.given := rfl

/-- The configuration of `State.reset`. -/
def Config.atReset : Config := Params.atReset.config

end Sys2Proof
end

