-- ==== Sys2Proof/Syntax.lean ====
section
/-! DEFINITION. The operations of RBFP, one constructor per row of `spec/opcode_table.json`, and the
selectors ("what plays the part of an instruction encoding", `30`) they are decoded from. -/

namespace Sys2Proof

/-- The document's Layer3 set (`10` R35, `41` R150). -/
inductive L3Class where
  | unknown | ipv4 | ipv6 | arp
deriving DecidableEq, Repr

/-- The document's Layer4 set (`10` R38, `43` R187). -/
inductive L4Class where
  | unknown | tcp | udp | icmp | icmpv6 | arp
deriving DecidableEq, Repr

/-- The values of STAGE (`10` R29, `47` R233). -/
inductive Stage where
  | sEth | sNet | sArpd | sXport | sEnd
deriving DecidableEq, Repr

/-- One host port access (`20` R70, `47` R236 to R239). There is no read of the frame space. -/
inductive PortReq where
  /-- Write byte `b` at frame index `i`. -/
  | writeFrame (i : Nat) (b : Byte)
  /-- Write the value `v` to register number `k`. -/
  | writeReg (k : Nat) (v : Nat)
  /-- Read register number `k`. -/
  | readReg (k : Nat)
deriving DecidableEq, Repr

/-- What an operation is selected by (`30` R109 to R112, R117), one alternative per format. -/
inductive Selector where
  /-- STAGE: no bits, the stage alone. -/
  | stage (st : Stage)
  /-- ETYPE16: the ethertype. -/
  | etype16 (e : BitVec 16)
  /-- L3CLASS: the code in L3_CLASS. -/
  | l3class (c : BitVec 2)
  /-- PROTO8: the protocol or next-header byte. -/
  | proto8 (p : BitVec 8)
  /-- L4CLASS: the code in L4_CLASS. -/
  | l4class (c : BitVec 3)
  /-- CTRL1 (a write to register 0) and PORT. -/
  | port (r : PortReq)
deriving DecidableEq, Repr

/-- The operations, in the order of `spec/opcode_table.json`. The two dispatchers' default rows
carry the value they were selected by; the port operations carry their operands. -/
inductive Instr where
  | eth
  | l3dIpv4
  | l3dArp
  | l3dIpv6
  | l3dUnknown (e : BitVec 16)
  | net4
  | net6
  | netarp
  | netunk
  | arpd
  | l4dTcp
  | l4dUdp
  | l4dIcmp
  | l4dIcmp6
  | l4dUnknown (p : BitVec 8)
  | tcpd
  | udpd
  | icmpd
  | icmp6d
  | xnone
  | start
  | cnop
  | wfb (i : Nat) (b : Byte)
  | wflen (n : Nat)
  | rreg (k : Nat)
deriving DecidableEq, Repr

end Sys2Proof
end

