-- ==== Sys2Proof/Machine/State.lean ====
section
/-! DEFINITION. The state of one RBFP instance (`10` R20) as plain data, the reasons a step can stop,
and the state after reset (`10` R48). -/

namespace Sys2Proof.Machine

/-- STATE, register 1 (`10` R24). -/
inductive RunState where
  | idle | busy | done
deriving DecidableEq, Repr

/-- STATUS, register 2 (`10` R25). -/
inductive Status where
  | none | ok | l3Unknown | underflow
deriving DecidableEq, Repr

/-- ERR_STAGE, register 3: the operation that raised Underflow (`10` R26). -/
inductive ErrStage where
  | none | eth | net4 | net6 | netarp | arpd | tcpd | udpd | icmpd | icmp6d
deriving DecidableEq, Repr

/-- Registers 8 to 14, the document's EthernetFrame (`10` R31 to R36); written by ETH. -/
structure EthRegs where
  dstMac : Mac
  srcMac : Mac
  dot1q : BitVec 32
  etype : BitVec 16
  l3Class : L3Class
  pay2Off : Nat
  pay2Len : Nat
deriving DecidableEq, Repr

/-- Registers 15 to 19, the document's NetworkRecord (`10` R37 to R39); written by NET4, NET6, NETARP. -/
structure NetRegs where
  srcAddr : Addr
  dstAddr : Addr
  l4Class : L4Class
  pay3Off : Nat
  pay3Len : Nat
deriving DecidableEq, Repr

/-- Registers 20 to 22, the document's ARPRecord (`10` R40, R41); written by ARPD. -/
structure ArpRegs where
  opcode : BitVec 16
  smac : Mac
  tmac : Mac
deriving DecidableEq, Repr

/-- Registers 23 to 28 (`10` R42); written by TCPD. -/
structure TcpRegs where
  sport : BitVec 16
  dport : BitVec 16
  seq : BitVec 32
  ack : BitVec 32
  flags : BitVec 8
  window : BitVec 16
deriving DecidableEq, Repr

/-- Registers 29 to 32 (`10` R43); written by UDPD. -/
structure UdpRegs where
  sport : BitVec 16
  dport : BitVec 16
  len : BitVec 16
  csum : BitVec 16
deriving DecidableEq, Repr

/-- Registers 33 and 34 (`10` R44); written by ICMPD and ICMP6D. -/
structure IcmpRegs where
  type : BitVec 8
  code : BitVec 8
deriving DecidableEq, Repr

/-- The record registers, numbers 8 to 34 (`10` R30), in the groups VALID covers (`10` R28). -/
structure Record where
  eth : EthRegs
  net : NetRegs
  arp : ArpRegs
  tcp : TcpRegs
  udp : UdpRegs
  icmp : IcmpRegs
deriving DecidableEq, Repr

/-- Registers 8 to 14 all 0. -/
def EthRegs.zero : EthRegs := ⟨0, 0, 0, 0, .unknown, 0, 0⟩

/-- Registers 15 to 19 all 0. -/
def NetRegs.zero : NetRegs := ⟨0, 0, .unknown, 0, 0⟩

/-- Registers 20 to 22 all 0. -/
def ArpRegs.zero : ArpRegs := ⟨0, 0, 0⟩

/-- Registers 23 to 28 all 0. -/
def TcpRegs.zero : TcpRegs := ⟨0, 0, 0, 0, 0, 0⟩

/-- Registers 29 to 32 all 0. -/
def UdpRegs.zero : UdpRegs := ⟨0, 0, 0, 0⟩

/-- Registers 33 and 34 all 0. -/
def IcmpRegs.zero : IcmpRegs := ⟨0, 0⟩

/-- "for every record register n in 8..34: r[n] <- 0" (`47` R231, `60` R283); the class code 0 is
UNKNOWN (`10` R35, R38). -/
def Record.zero : Record :=
  ⟨EthRegs.zero, NetRegs.zero, ArpRegs.zero, TcpRegs.zero, UdpRegs.zero, IcmpRegs.zero⟩

/-- The bytes of FB the host has written since the last reset, by index, strictly rising (`10` R21).
An index that is not listed has not been written; what it reads as is `fbByte`'s. -/
abbrev Memory := List Host.Cell

/-- One move of what stands outside the parser. MODEL'S OWN, assumption log 4. -/
inductive HostMove where
  /-- The host makes one port access. -/
  | port (r : PortReq)
  /-- The host does nothing: the turn is the parser's. -/
  | quiet
  /-- The reset input (`70` R320). -/
  | reset
deriving DecidableEq, Repr

/-- The whole state (`10` R20). CTRL stores nothing (R23) and VALID is derived (R28, `State.valid`). -/
structure State where
  /-- LEN_W, ICMP_MIN_LEN, ICMP6_MIN_LEN: configuration, written by nothing (`10` R20). Log 1. -/
  params : Params
  /-- FB (`10` R21). -/
  fb : Memory
  /-- FLEN, register 4 (`10` R22). -/
  flen : Nat
  /-- STATE, register 1 (`10` R24). -/
  runState : RunState
  /-- STATUS, register 2 (`10` R25). -/
  status : Status
  /-- ERR_STAGE, register 3 (`10` R26). -/
  errStage : ErrStage
  /-- FRAME_LEN, register 5 (`10` R27). -/
  frameLen : Nat
  /-- STAGE (`10` R29). -/
  stage : Stage
  /-- Registers 8 to 34 (`10` R30). -/
  record : Record
  /-- MODEL'S OWN: the moves of the host and of the reset input still to come. Log 4. -/
  host : List HostMove
  /-- MODEL'S OWN: the value the last RREG returned to the host. Log 8. -/
  readData : Nat
  /-- MODEL'S OWN: how many unspecified register reads were drawn. Log 3. -/
  draws : Nat
  /-- MODEL'S OWN: how many reset events there were. Log 2. -/
  resets : Nat
deriving DecidableEq, Repr

/-- Why the machine can stop. None of them is reached from `State.reset`, whatever the host does:
they mark what the spec says cannot happen. -/
inductive Fault where
  /-- A MemRead of bytes `a` to `a + n - 1` that runs beyond FRAME_LEN (`00` R12: "treats it as an
  internal fault"; `93` U12). Raised by every operation that reads the frame. Safe. -/
  | readBeyondFrame (a n : Nat)
  /-- A MemRead of bytes that are not in FB, at or beyond FRAME_MAX (`10` R21). Raised by the same
  operations, only where FRAME_LEN exceeds FRAME_MAX. Safe. -/
  | readOutsideBuffer (a n : Nat)
  /-- BUSY with a stage that has no operation, S_END (`47` R233). Raised by the step. Safe. -/
  | noOperation
deriving DecidableEq, Repr

/-- Why an operation has no meaning. -/
inductive Refusal where
  /-- The operation is not modelled yet; raised by `exec`'s arms alone, of which none does. Safe. -/
  | notModelled (mnemonic : String)
deriving DecidableEq, Repr

/-- The state right after a hardware reset (`10` R48, `70` R320). FB is unspecified: nothing is
listed. `params` and the model's own fields have the values of logs 1, 2, 3, 4 and 8 (DESIGN CHOICE). -/
def State.reset : State where
  params := Params.atReset
  fb := []
  flen := 0
  runState := .idle
  status := .none
  errStage := .none
  frameLen := 0
  stage := .sEnd
  record := Record.zero
  host := []
  readData := 0
  draws := 0
  resets := 0

end Sys2Proof.Machine
end

