-- ==== Sys2Proof/Machine/Ops.lean ====
section
/-! DEFINITION. The operations every meaning is written over: the frame buffer, MemRead and MemWrite
(`00` R12), one update per register group, the end of a decode without error (`47` R235), Underflow
entry (`60` R283), and the reset event (`70` R320). -/

namespace Sys2Proof.Machine

/-- What an operation answers. -/
abbrev Result := Host.Outcome State Fault Refusal

/-- The machine's configuration (`00` R7, R8). It is no state: it follows from the open parameters,
which nothing writes (`10` R20). -/
def State.cfg (s : State) : Config := s.params.config

/-! The frame buffer -/

/-- The byte written at index `i`, if one was. -/
def Memory.get? : Memory → Nat → Option Byte
  | [], _ => none
  | (a, b) :: m, i => if i = a then some b else Memory.get? m i

/-- Write byte `b` at index `i`, keeping the indices strictly rising. -/
def Memory.set : Memory → Nat → Byte → Memory
  | [], i, b => [(i, b)]
  | (a, x) :: m, i, b =>
    if i < a then (i, b) :: (a, x) :: m
    else if i = a then (i, b) :: m
    else (a, x) :: Memory.set m i b

/-- The canonical form: indices strictly rising. An unlisted index is one that was not written, so
there is no entry a write has to remove (log 2). -/
def Memory.wf : Memory → Bool
  | [] => true
  | [_] => true
  | (a, _) :: (b, y) :: m => decide (a < b) && Memory.wf ((b, y) :: m)

/-- Every byte written lies in FB, whose indices are below `n` (`10` R21). -/
def Memory.below (n : Nat) (m : Memory) : Bool := m.all fun c => decide (c.1 < n)

/-- `FB[i]` (`10` R21). A byte the host has not written since the last reset has an unspecified value
(`10` R48, `70` R322), the same one on every read until it is written or the machine is reset. -/
def fbByte (s : State) (i : Nat) : Byte :=
  match Memory.get? s.fb i with
  | some b => b
  | none => Config.freeByte s.resets i

/-- `FB[a] ++ FB[a+1] ++ ... ++ FB[a+n−1]`: the first byte of the list is the most significant
(`20` R72). -/
def beValue : List Byte → Nat
  | [] => 0
  | b :: bs => 256 ^ bs.length * b.toNat + beValue bs

/-- The bytes at indices `a` to `a + n - 1`, in index order. -/
def frameBytes (s : State) (a : Nat) : Nat → List Byte
  | 0 => []
  | n + 1 => fbByte s a :: frameBytes s (a + 1) n

/-- The value of the `n` bytes at `a`, big-endian. -/
def field (s : State) (a n : Nat) : Nat := beValue (frameBytes s a n)

/-- `MemRead(a, n)` (`00` R12): it has a value only where `a + n ≤ r[FRAME_LEN]`, and the bytes must be
bytes of FB. -/
def memRead (s : State) (a n : Nat) : Except Fault Nat :=
  if s.frameLen < a + n then .error (.readBeyondFrame a n)
  else if s.cfg.frameMax < a + n then .error (.readOutsideBuffer a n)
  else .ok (field s a n)

/-- Read a field and go on with its value. -/
def withField (s : State) (a n : Nat) (k : Nat → Result) : Result :=
  match memRead s a n with
  | .ok v => k v
  | .error f => .fault f

/-- Read the field `f` of the view that starts at `base`. -/
def readField (s : State) (base : Nat) (f : Slice) (k : Nat → Result) : Result :=
  withField s (base + f.off) f.size k

/-! One update per piece of state -/

/-- Write registers 8 to 14. -/
def State.setEth (s : State) (r : EthRegs) : State := { s with record := { s.record with eth := r } }

/-- Write registers 15 to 19. -/
def State.setNet (s : State) (r : NetRegs) : State := { s with record := { s.record with net := r } }

/-- Write registers 20 to 22. -/
def State.setArp (s : State) (r : ArpRegs) : State := { s with record := { s.record with arp := r } }

/-- Write registers 23 to 28. -/
def State.setTcp (s : State) (r : TcpRegs) : State := { s with record := { s.record with tcp := r } }

/-- Write registers 29 to 32. -/
def State.setUdp (s : State) (r : UdpRegs) : State := { s with record := { s.record with udp := r } }

/-- Write registers 33 and 34. -/
def State.setIcmp (s : State) (r : IcmpRegs) : State := { s with record := { s.record with icmp := r } }

/-- Write L3_CLASS alone. -/
def State.setL3 (s : State) (c : L3Class) : State := s.setEth { s.record.eth with l3Class := c }

/-- Write L4_CLASS alone. -/
def State.setL4 (s : State) (c : L4Class) : State := s.setNet { s.record.net with l4Class := c }

/-- `STAGE <- st` (`00` R12). -/
def State.setStage (s : State) (st : Stage) : State := { s with stage := st }

/-- "for every record register n in 8..34: r[n] <- 0". -/
def State.clearRecord (s : State) : State := { s with record := Record.zero }

/-- Write FB. -/
def State.setFb (s : State) (m : Memory) : State := { s with fb := m }

/-- Write FLEN. -/
def State.setFlen (s : State) (n : Nat) : State := { s with flen := n }

/-- Hand a register's value to the host. -/
def State.setReadData (s : State) (v : Nat) : State := { s with readData := v }

/-- Note that one unspecified value was drawn. -/
def State.drawn (s : State) : State := { s with draws := s.draws + 1 }

/-- Replace the moves still to come. -/
def State.setHost (s : State) (h : List HostMove) : State := { s with host := h }

/-- The end of a decode, in one step (`20` R84): STATUS, ERR_STAGE, STAGE and STATE together. -/
def State.endDecode (s : State) (st : Status) (e : ErrStage) : State :=
  { s with status := st, errStage := e, stage := .sEnd, runState := .done }

/-- An accepted START, in one step (`47` R231). -/
def State.beginDecode (s : State) : State :=
  { s with
    frameLen := s.flen, status := .none, errStage := .none, record := Record.zero,
    runState := .busy, stage := .sEth }

/-! The shared operations -/

/-- `MemWrite(i, 1, b)`, that is `FB[i] <- b` (`00` R12, `47` R236). The one index that can be
expressed and is not in FB is ignored. -/
def memWrite (s : State) (i : Nat) (b : Byte) : State :=
  if i < s.cfg.frameMax then s.setFb (Memory.set s.fb i b) else s

/-- `finish(code)` (`47` R235): the decode ends without error and ERR_STAGE stays NONE. -/
def finish (code : Status) (s : State) : State := s.endDecode code s.errStage

/-- `raise Underflow(e)` (`60` R283): the record registers are cleared, STATUS, ERR_STAGE, STAGE and
STATE are written, FRAME_LEN is kept. There is no handler and nothing to return from (R289, R290). -/
def enterUnderflow (e : ErrStage) (s : State) : State := s.clearRecord.endDecode .underflow e

/-- Test a length before anything else is done (`20` R77): too short raises Underflow and the
operation writes nothing. -/
def requireLen (len least : Nat) (e : ErrStage) (s : State) (k : Result) : Result :=
  if len < least then .next (enterUnderflow e s) else k

/-- The reset event (`70` R320): every register at the value of `10` R48 and FB unspecified anew. The
configuration is no state, and what stands outside the block goes on. -/
def hardReset (s : State) : State :=
  { State.reset with
    params := s.params, host := s.host, readData := s.readData, draws := s.draws, resets := s.resets + 1 }

end Sys2Proof.Machine
end

