-- ==== Sys2Proof/Machine/Arp.lean ====
section
/-! DEFINITION. The ARP decoder's field extraction (`44`), over the full ARP payload: the layer-2
payload view, not the one NETARP left. -/

namespace Sys2Proof.Machine

/-- ARPD (`44` R190). The sender and target protocol addresses are SRC_ADDR and DST_ADDR (R191). -/
def execArpd (s : State) : Result :=
  let base := s.record.eth.pay2Off
  requireLen s.record.eth.pay2Len s.cfg.arpMinLen .arpd s <|
    readField s base s.cfg.arpOffOpcode fun op =>
    readField s base s.cfg.arpOffSmac fun smac =>
    readField s base s.cfg.arpOffTmac fun tmac =>
    .next ((s.setArp
      { opcode := BitVec.ofNat 16 op
        smac := BitVec.ofNat 48 smac
        tmac := BitVec.ofNat 48 tmac }).setStage .sXport)

end Sys2Proof.Machine
end

