-- ==== Sys2Proof/Machine/L3Dispatch.lean ====
section
/-! DEFINITION. The layer-3 dispatcher (`41`): the function L3D and its four rows. ETH calls L3D and
stores its result (`40` R143). A row run alone is that store: L3_CLASS is written and nothing else
(`spec/opcode_table.json`, "produces"; assumption log 7). -/

namespace Sys2Proof.Machine

/-- L3D (`41` R150). -/
def l3d (c : Config) (e : BitVec 16) : L3Class :=
  if e = c.etypeIpv4 then .ipv4
  else if e = c.etypeArp then .arp
  else if e = c.etypeIpv6 then .ipv6
  else .unknown

/-- L3D.IPV4 (`41` R151). -/
def execL3dIpv4 (s : State) : Result := .next (s.setL3 .ipv4)

/-- L3D.ARP (`41` R152). -/
def execL3dArp (s : State) : Result := .next (s.setL3 .arp)

/-- L3D.IPV6 (`41` R153). -/
def execL3dIpv6 (s : State) : Result := .next (s.setL3 .ipv6)

/-- L3D.UNKNOWN (`41` R154): the class is UNKNOWN whatever the value; the raw value stays in ETYPE,
where ETH put it. -/
def execL3dUnknown (_e : BitVec 16) (s : State) : Result := .next (s.setL3 .unknown)

end Sys2Proof.Machine
end

