-- ==== Sys2Proof/Machine/Ethernet.lean ====
section
/-! DEFINITION. The Ethernet frame decoder (`40`). -/

namespace Sys2Proof.Machine

/-- ETH (`40` R140). The tag field and the ethertype are read at their fixed offsets whatever the
bytes hold (R141). -/
def execEth (s : State) : Result :=
  requireLen s.frameLen s.cfg.ethHdrLen .eth s <|
    readField s 0 s.cfg.ethOffDst fun dst =>
    readField s 0 s.cfg.ethOffSrc fun src =>
    readField s 0 s.cfg.ethOffTag fun tag =>
    readField s 0 s.cfg.ethOffEtype fun ety =>
    .next ((s.setEth
      { dstMac := BitVec.ofNat 48 dst
        srcMac := BitVec.ofNat 48 src
        dot1q := BitVec.ofNat 32 tag
        etype := BitVec.ofNat 16 ety
        l3Class := l3d s.cfg (BitVec.ofNat 16 ety)
        pay2Off := s.cfg.ethHdrLen
        pay2Len := s.frameLen - s.cfg.ethHdrLen }).setStage .sNet)

end Sys2Proof.Machine
end

