-- ==== Sys2Proof/Machine/Flags.lean ====
section
/-! DEFINITION. VALID, register 6, the machine's only condition bits (`10` R20, R28): each is a
function of STATUS, L3_CLASS and L4_CLASS and holds no state of its own. -/

namespace Sys2Proof.Machine

/-- V_L2, bit 0: registers 8 to 14 hold a decoded value. -/
def State.vL2 (s : State) : Bool := s.status == .ok || s.status == .l3Unknown

/-- V_L3, bit 1: registers 15 to 19 hold a decoded value. -/
def State.vL3 (s : State) : Bool := s.status == .ok

/-- V_ARP, bit 2: registers 20 to 22 hold a decoded value. -/
def State.vArp (s : State) : Bool := s.status == .ok && s.record.eth.l3Class == .arp

/-- V_L4, bit 3: the registers of the class in L4_CLASS hold a decoded value. -/
def State.vL4 (s : State) : Bool :=
  s.status == .ok &&
    (match s.record.net.l4Class with
     | .tcp | .udp | .icmp | .icmpv6 => true
     | .unknown | .arp => false)

/-- VALID as a number: V_L2 in bit 0 up to V_L4 in bit 3. -/
def State.valid (s : State) : Nat :=
  s.vL2.toNat + 2 * s.vL3.toNat + 4 * s.vArp.toNat + 8 * s.vL4.toNat

end Sys2Proof.Machine
end

