-- ==== Sys2Proof/Machine/Operands.lean ====
section
/-! DEFINITION. The register space as the host sees it: the codes of the enumerated registers, the
register numbers and widths of the table under `10` R20, and what a read returns (`47` R238). -/

namespace Sys2Proof.Machine

/-- The encoding of L3_CLASS (`10` R35). -/
def l3Code : L3Class → BitVec 2
  | .unknown => 0#2 | .ipv4 => 1#2 | .ipv6 => 2#2 | .arp => 3#2

/-- The encoding of L4_CLASS (`10` R38). -/
def l4Code : L4Class → BitVec 3
  | .unknown => 0#3 | .tcp => 1#3 | .udp => 2#3 | .icmp => 3#3 | .icmpv6 => 4#3 | .arp => 5#3

/-- The encoding of STATE (`10` R24). -/
def runCode : RunState → Nat
  | .idle => 0 | .busy => 1 | .done => 2

/-- The encoding of STATUS (`10` R25). -/
def statusCode : Status → Nat
  | .none => 0 | .ok => 1 | .l3Unknown => 2 | .underflow => 3

/-- The encoding of ERR_STAGE (`10` R26). -/
def errCode : ErrStage → Nat
  | .none => 0 | .eth => 1 | .net4 => 2 | .net6 => 3 | .netarp => 4 | .arpd => 5
  | .tcpd => 6 | .udpd => 7 | .icmpd => 8 | .icmp6d => 9

/-- The registers that have a number (`10` R20). -/
inductive Reg where
  | ctrl | state | status | errStage | flen | frameLen | valid
  | dstMac | srcMac | dot1q | etype | l3Class | pay2Off | pay2Len
  | srcAddr | dstAddr | l4Class | pay3Off | pay3Len
  | arpOpcode | arpSmac | arpTmac
  | tcpSport | tcpDport | tcpSeq | tcpAck | tcpFlags | tcpWindow
  | udpSport | udpDport | udpLen | udpCsum
  | icmpType | icmpCode
deriving DecidableEq, Repr

/-- The table of `10` R20 by number: `none` where the number is unassigned. -/
def regTable : List (Option Reg) :=
  [some .ctrl, some .state, some .status, some .errStage, some .flen, some .frameLen, some .valid,
   none,
   some .dstMac, some .srcMac, some .dot1q, some .etype, some .l3Class, some .pay2Off, some .pay2Len,
   some .srcAddr, some .dstAddr, some .l4Class, some .pay3Off, some .pay3Len,
   some .arpOpcode, some .arpSmac, some .arpTmac,
   some .tcpSport, some .tcpDport, some .tcpSeq, some .tcpAck, some .tcpFlags, some .tcpWindow,
   some .udpSport, some .udpDport, some .udpLen, some .udpCsum,
   some .icmpType, some .icmpCode]

/-- The register with number `k`; number 7 and the numbers above 34 have none (`20` R78). -/
def regOfNumber (k : Nat) : Option Reg := (regTable[k]?).join

/-- The widths of `10` R20 in bits. -/
def regWidth (c : Config) : Reg → Nat
  | .ctrl => 1
  | .state | .status | .l3Class => 2
  | .l4Class => 3
  | .errStage | .valid => 4
  | .tcpFlags | .icmpType | .icmpCode => 8
  | .etype | .arpOpcode | .tcpSport | .tcpDport | .tcpWindow => 16
  | .udpSport | .udpDport | .udpLen | .udpCsum => 16
  | .dot1q | .tcpSeq | .tcpAck => 32
  | .dstMac | .srcMac | .arpSmac | .arpTmac => 48
  | .srcAddr | .dstAddr => 128
  | .flen | .frameLen | .pay2Off | .pay2Len | .pay3Off | .pay3Len => c.lenW

/-- The value a register holds, as a natural number; CTRL stores nothing and reads 0 (`10` R23). -/
def regValue (s : State) : Reg → Nat
  | .ctrl => 0
  | .state => runCode s.runState
  | .status => statusCode s.status
  | .errStage => errCode s.errStage
  | .flen => s.flen
  | .frameLen => s.frameLen
  | .valid => s.valid
  | .dstMac => s.record.eth.dstMac.toNat
  | .srcMac => s.record.eth.srcMac.toNat
  | .dot1q => s.record.eth.dot1q.toNat
  | .etype => s.record.eth.etype.toNat
  | .l3Class => (l3Code s.record.eth.l3Class).toNat
  | .pay2Off => s.record.eth.pay2Off
  | .pay2Len => s.record.eth.pay2Len
  | .srcAddr => s.record.net.srcAddr.toNat
  | .dstAddr => s.record.net.dstAddr.toNat
  | .l4Class => (l4Code s.record.net.l4Class).toNat
  | .pay3Off => s.record.net.pay3Off
  | .pay3Len => s.record.net.pay3Len
  | .arpOpcode => s.record.arp.opcode.toNat
  | .arpSmac => s.record.arp.smac.toNat
  | .arpTmac => s.record.arp.tmac.toNat
  | .tcpSport => s.record.tcp.sport.toNat
  | .tcpDport => s.record.tcp.dport.toNat
  | .tcpSeq => s.record.tcp.seq.toNat
  | .tcpAck => s.record.tcp.ack.toNat
  | .tcpFlags => s.record.tcp.flags.toNat
  | .tcpWindow => s.record.tcp.window.toNat
  | .udpSport => s.record.udp.sport.toNat
  | .udpDport => s.record.udp.dport.toNat
  | .udpLen => s.record.udp.len.toNat
  | .udpCsum => s.record.udp.csum.toNat
  | .icmpType => s.record.icmp.type.toNat
  | .icmpCode => s.record.icmp.code.toNat

/-- The registers whose value is defined at every moment, BUSY included (`47` R238). -/
def regSteady : Reg → Bool
  | .ctrl | .state | .flen => true
  | _ => false

/-- A read of the register drawn while BUSY has no specified value (`47` R238, `70` R325). -/
def readIsDraw (s : State) (r : Reg) : Bool := s.runState == .busy && !regSteady r

/-- The host reads register number `k` (`47` R238): an unassigned number reads 0; while BUSY every
register but STATE, CTRL and FLEN reads an unspecified value of its width (log 3). Nothing of the
block changes; the value goes to the host. -/
def readRegister (s : State) (k : Nat) : State :=
  match regOfNumber k with
  | none => s.setReadData 0
  | some r =>
    if readIsDraw s r then
      (s.setReadData (Config.freeRead s.draws % 2 ^ regWidth s.cfg r)).drawn
    else s.setReadData (regValue s r)

end Sys2Proof.Machine
end

