-- ==== Sys2Proof/Machine/HostPort.lean ====
section
/-! DEFINITION. The host port operations (`47` R231, R236 to R240). While BUSY the frame buffer and
FLEN are locked and START is ignored (`20` R85, `47` R240). -/

namespace Sys2Proof.Machine

/-- An operation of the host that has no effect while BUSY. -/
def unlessBusy (s t : State) : State := if s.runState = .busy then s else t

/-- START (`47` R231, R240). -/
def execStart (s : State) : Result := .next (unlessBusy s s.beginDecode)

/-- CNOP (`47` R239). -/
def execCnop (s : State) : Result := .next s

/-- WFB(i, b) (`47` R236). -/
def execWfb (i : Nat) (b : Byte) (s : State) : Result := .next (unlessBusy s (memWrite s i b))

/-- WFLEN(n) (`47` R237). -/
def execWflen (n : Nat) (s : State) : Result := .next (unlessBusy s (s.setFlen n))

/-- RREG(k) (`47` R238). -/
def execRreg (k : Nat) (s : State) : Result := .next (readRegister s k)

end Sys2Proof.Machine
end

