-- ==== Sys2Proof/Machine/Icmp.lean ====
section
/-! DEFINITION. The ICMP decoder's field extraction (`46`), over the layer-3 payload view. The two
operations differ in the parameter they test against and the code they raise (R222). -/

namespace Sys2Proof.Machine

/-- "one decoder for both with one sentence of extraction" (`46` R222). -/
def icmpFields (least : Nat) (e : ErrStage) (s : State) : Result :=
  let base := s.record.net.pay3Off
  requireLen s.record.net.pay3Len least e s <|
    readField s base s.cfg.icmpOffType fun type =>
    readField s base s.cfg.icmpOffCode fun code =>
    .next (finish .ok (s.setIcmp
      { type := BitVec.ofNat 8 type
        code := BitVec.ofNat 8 code }))

/-- ICMPD (`46` R220). -/
def execIcmpd (s : State) : Result := icmpFields s.cfg.icmpMinLen .icmpd s

/-- ICMP6D (`46` R221). -/
def execIcmp6d (s : State) : Result := icmpFields s.cfg.icmp6MinLen .icmp6d s

end Sys2Proof.Machine
end

