-- ==== Sys2Proof/Machine/L4Dispatch.lean ====
section
/-! DEFINITION. The layer-4 dispatcher (`43`): the function L4D and its five rows. NET4 and NET6 call
L4D and store its result (`42` R166). A row run alone is that store: L4_CLASS is written and nothing
else (`spec/opcode_table.json`, "produces"; assumption log 7). -/

namespace Sys2Proof.Machine

/-- L4D (`43` R180). -/
def l4d (c : Config) (p : BitVec 8) : L4Class :=
  if p = c.protoTcp then .tcp
  else if p = c.protoUdp then .udp
  else if p = c.protoIcmp then .icmp
  else if p = c.protoIcmp6 then .icmpv6
  else .unknown

/-- L4D.TCP (`43` R181). -/
def execL4dTcp (s : State) : Result := .next (s.setL4 .tcp)

/-- L4D.UDP (`43` R182). -/
def execL4dUdp (s : State) : Result := .next (s.setL4 .udp)

/-- L4D.ICMP (`43` R183). -/
def execL4dIcmp (s : State) : Result := .next (s.setL4 .icmp)

/-- L4D.ICMP6 (`43` R184). -/
def execL4dIcmp6 (s : State) : Result := .next (s.setL4 .icmpv6)

/-- L4D.UNKNOWN (`43` R185): the byte is not kept. -/
def execL4dUnknown (_p : BitVec 8) (s : State) : Result := .next (s.setL4 .unknown)

end Sys2Proof.Machine
end

