-- ==== Sys2Proof/Machine/Network.lean ====
section
/-! DEFINITION. The network layer decoder (`42`): one operation per layer-3 class, each over the
layer-2 payload view (PAY2_OFF, PAY2_LEN). -/

namespace Sys2Proof.Machine

/-- NET4, the IPv4 branch (`42` R161). -/
def execNet4 (s : State) : Result :=
  let base := s.record.eth.pay2Off
  let len := s.record.eth.pay2Len
  requireLen len s.cfg.ipv4MinLen .net4 s <|
    readField s base s.cfg.ipv4OffSrc fun src =>
    readField s base s.cfg.ipv4OffDst fun dst =>
    readField s base s.cfg.ipv4OffProto fun proto =>
    .next ((s.setNet
      { srcAddr := BitVec.ofNat 128 src
        dstAddr := BitVec.ofNat 128 dst
        l4Class := l4d s.cfg (BitVec.ofNat 8 proto)
        pay3Off := base + s.cfg.ipv4MinLen
        pay3Len := len - s.cfg.ipv4MinLen }).setStage .sXport)

/-- NET6, the IPv6 branch (`42` R162). -/
def execNet6 (s : State) : Result :=
  let base := s.record.eth.pay2Off
  let len := s.record.eth.pay2Len
  requireLen len s.cfg.ipv6MinLen .net6 s <|
    readField s base s.cfg.ipv6OffSrc fun src =>
    readField s base s.cfg.ipv6OffDst fun dst =>
    readField s base s.cfg.ipv6OffNh fun nh =>
    .next ((s.setNet
      { srcAddr := BitVec.ofNat 128 src
        dstAddr := BitVec.ofNat 128 dst
        l4Class := l4d s.cfg (BitVec.ofNat 8 nh)
        pay3Off := base + s.cfg.ipv6MinLen
        pay3Len := len - s.cfg.ipv6MinLen }).setStage .sXport)

/-- NETARP, the ARP branch (`42` R163): the IPv4 offsets, and the class ARP directly. -/
def execNetarp (s : State) : Result :=
  let base := s.record.eth.pay2Off
  let len := s.record.eth.pay2Len
  requireLen len s.cfg.arpnetMinLen .netarp s <|
    readField s base s.cfg.arpnetOffSrc fun src =>
    readField s base s.cfg.arpnetOffDst fun dst =>
    .next ((s.setNet
      { srcAddr := BitVec.ofNat 128 src
        dstAddr := BitVec.ofNat 128 dst
        l4Class := .arp
        pay3Off := base + s.cfg.arpnetConsumed
        pay3Len := len - s.cfg.arpnetConsumed }).setStage .sArpd)

/-- NETUNK, the Unknown branch (`42` R164). -/
def execNetunk (s : State) : Result := .next (finish .l3Unknown s)

end Sys2Proof.Machine
end

