-- ==== Sys2Proof/WellFormed.lean ====
section
/-! DEFINITION. Which operations the hardware can be given: the default rows of the dispatchers take
only what the rows before them leave (`41` R154, `43` R185), and an index or a length has LEN_W bits
(`47` R236, R237); and which selectors can be expressed. -/

namespace Sys2Proof

/-- The operation can be selected on a machine with configuration `c`. -/
def Instr.wf (c : Config) : Instr → Bool
  | .l3dUnknown e => !(e == c.etypeIpv4 || e == c.etypeArp || e == c.etypeIpv6)
  | .l4dUnknown p => !(p == c.protoTcp || p == c.protoUdp || p == c.protoIcmp || p == c.protoIcmp6)
  | .wfb i _ => decide (i < 2 ^ c.lenW)
  | .wflen n => decide (n < 2 ^ c.lenW)
  | .eth | .l3dIpv4 | .l3dArp | .l3dIpv6 | .net4 | .net6 | .netarp | .netunk | .arpd => true
  | .l4dTcp | .l4dUdp | .l4dIcmp | .l4dIcmp6 | .tcpd | .udpd | .icmpd | .icmp6d | .xnone => true
  | .start | .cnop | .rreg _ => true

/-- The selector can be expressed: a frame index has LEN_W bits, a value written to CTRL one bit and
a value written to FLEN LEN_W bits (`10` R20, `47` R236, R237), an L4_CLASS code is one that is
produced (`10` R38), and a stage has an operation of its own (`30` R111). -/
def Selector.wf (c : Config) : Selector → Bool
  | .stage st => st == .sEth || st == .sArpd
  | .etype16 _ => true
  | .l3class _ => true
  | .proto8 _ => true
  | .l4class v => !(v == 6#3 || v == 7#3)
  | .port (.writeFrame i _) => decide (i < 2 ^ c.lenW)
  | .port (.writeReg k v) => (k == 0 && decide (v < 2)) || (k == 4 && decide (v < 2 ^ c.lenW))
  | .port (.readReg _) => true

end Sys2Proof
end

