-- ==== Sys2Proof/Decode.lean ====
section
/-! DEFINITION. The decoder: from a selector to an operation, with the rows of
`spec/opcode_table.json` as match and mask (`30` R117), total, rejecting by name; after it the
encoder, from the same tables; and the reading of the opcode table's bare words. -/

namespace Sys2Proof

/-- Why a selector names no operation. -/
inductive DecodeReject where
  /-- Stage S_NET or S_XPORT without its class selector, or S_END, which has no operation (`47` R233). -/
  | noStageOperation (st : Stage)
  /-- An L4_CLASS code that is never produced, 6 or 7 (`10` R38, `93` U17). Assumption log 9. -/
  | reservedL4Class (c : BitVec 3)
  /-- A write to a register number other than CTRL and FLEN: it is ignored (`10` R49, `20` R78). -/
  | ignoredWrite (k : Nat)
deriving DecidableEq, Repr

/-- One row of a selector table: selected when `(selector &&& mask) = pattern` (`30` R117). -/
structure SelRow (w : Nat) where
  mask : BitVec w
  pattern : BitVec w
  op : BitVec w → Instr

/-- The first row that matches wins (`30` R117). -/
def firstRow {w : Nat} : List (SelRow w) → BitVec w → Option Instr
  | [], _ => none
  | r :: rs, v => if v &&& r.mask = r.pattern then some (r.op v) else firstRow rs v

/-- Format ETYPE16 (`30` R109). -/
def etype16Rows (c : Config) : List (SelRow 16) :=
  [⟨0xFFFF#16, c.etypeIpv4, fun _ => .l3dIpv4⟩, ⟨0xFFFF#16, c.etypeArp, fun _ => .l3dArp⟩,
   ⟨0xFFFF#16, c.etypeIpv6, fun _ => .l3dIpv6⟩, ⟨0x0000#16, 0x0000#16, .l3dUnknown⟩]

/-- Format PROTO8 (`30` R110). -/
def proto8Rows (c : Config) : List (SelRow 8) :=
  [⟨0xFF#8, c.protoTcp, fun _ => .l4dTcp⟩, ⟨0xFF#8, c.protoUdp, fun _ => .l4dUdp⟩,
   ⟨0xFF#8, c.protoIcmp, fun _ => .l4dIcmp⟩, ⟨0xFF#8, c.protoIcmp6, fun _ => .l4dIcmp6⟩,
   ⟨0x00#8, 0x00#8, .l4dUnknown⟩]

/-- Format L3CLASS at stage S_NET (`30` R111). -/
def l3classRows : List (SelRow 2) :=
  [⟨3#2, 1#2, fun _ => .net4⟩, ⟨3#2, 2#2, fun _ => .net6⟩, ⟨3#2, 3#2, fun _ => .netarp⟩,
   ⟨3#2, 0#2, fun _ => .netunk⟩]

/-- Format L4CLASS at stage S_XPORT (`30` R111). The default row XNONE stands for the codes 0 and 5;
6 and 7 are rejected before the rows are tried. -/
def l4classRows : List (SelRow 3) :=
  [⟨7#3, 1#3, fun _ => .tcpd⟩, ⟨7#3, 2#3, fun _ => .udpd⟩, ⟨7#3, 3#3, fun _ => .icmpd⟩,
   ⟨7#3, 4#3, fun _ => .icmp6d⟩, ⟨0#3, 0#3, fun _ => .xnone⟩]

/-- A row was found, or the selector is rejected with the reason given. -/
def orReject (r : DecodeReject) : Option Instr → Except DecodeReject Instr
  | some i => .ok i
  | none => .error r

/-- Format CTRL1: bit 0 of the value written to register 0; the bits above it are ignored
(`10` R23, `30` R112). -/
def decodeCtrl (v : Nat) : Instr := if v % 2 = 1 then .start else .cnop

/-- The port operations (`30` R112, R117): a frame index and a frame length have LEN_W bits, so the
low LEN_W bits of a wider bus value are taken (assumption log 10); register 0 is CTRL, register 4 is
FLEN, and a write to any other number is ignored. -/
def decodePort (c : Config) : PortReq → Except DecodeReject Instr
  | .writeFrame i b => .ok (.wfb (i % 2 ^ c.lenW) b)
  | .writeReg k v =>
    if k = 0 then .ok (decodeCtrl v)
    else if k = 4 then .ok (.wflen (v % 2 ^ c.lenW))
    else .error (.ignoredWrite k)
  | .readReg k => .ok (.rreg k)

/-- Format STAGE: the two stages with one operation each (`30` R111, `47` R233). -/
def decodeStage : Stage → Except DecodeReject Instr
  | .sEth => .ok .eth
  | .sArpd => .ok .arpd
  | .sNet => .error (.noStageOperation .sNet)
  | .sXport => .error (.noStageOperation .sXport)
  | .sEnd => .error (.noStageOperation .sEnd)

/-- The decoder. -/
def decode (c : Config) : Selector → Except DecodeReject Instr
  | .stage st => decodeStage st
  | .etype16 e => orReject (.noStageOperation .sEth) (firstRow (etype16Rows c) e)
  | .l3class v => orReject (.noStageOperation .sNet) (firstRow l3classRows v)
  | .proto8 p => orReject (.noStageOperation .sNet) (firstRow (proto8Rows c) p)
  | .l4class v =>
    if v = 6#3 ∨ v = 7#3 then .error (.reservedL4Class v)
    else orReject (.noStageOperation .sXport) (firstRow l4classRows v)
  | .port r => decodePort c r

/-- The encoder: the selector that names the operation (`30` R109 to R112). XNONE is written with the
code of UNKNOWN. -/
def encode (c : Config) : Instr → Selector
  | .eth => .stage .sEth
  | .l3dIpv4 => .etype16 c.etypeIpv4
  | .l3dArp => .etype16 c.etypeArp
  | .l3dIpv6 => .etype16 c.etypeIpv6
  | .l3dUnknown e => .etype16 e
  | .net4 => .l3class 1#2
  | .net6 => .l3class 2#2
  | .netarp => .l3class 3#2
  | .netunk => .l3class 0#2
  | .arpd => .stage .sArpd
  | .l4dTcp => .proto8 c.protoTcp
  | .l4dUdp => .proto8 c.protoUdp
  | .l4dIcmp => .proto8 c.protoIcmp
  | .l4dIcmp6 => .proto8 c.protoIcmp6
  | .l4dUnknown p => .proto8 p
  | .tcpd => .l4class 1#3
  | .udpd => .l4class 2#3
  | .icmpd => .l4class 3#3
  | .icmp6d => .l4class 4#3
  | .xnone => .l4class 0#3
  | .start => .port (.writeReg 0 1)
  | .cnop => .port (.writeReg 0 0)
  | .wfb i b => .port (.writeFrame i b)
  | .wflen n => .port (.writeReg 4 n)
  | .rreg k => .port (.readReg k)

/-- Which selector a bare word of the opcode table stands for. The table's formats have 0 bits
(STAGE), 1 bit (CTRL1), 2 bits (L3CLASS), 3 bits (L4CLASS), 8 bits (PROTO8) and 16 bits (ETYPE16),
and a word does not say its format. In whole bytes the formats below 16 bits share the length 8 and
their words overlap: there the rows are tried in the order of the table's file, with the default
rows last, as `30` R117 tries the rows of one format. Assumption log 11. -/
def tableSelector (nbits w : Nat) : Option Selector :=
  if 2 ^ nbits ≤ w then none
  else match nbits with
    | 0 => some (.stage .sEth)
    | 1 => some (.port (.writeReg 0 w))
    | 2 => some (.l3class (BitVec.ofNat 2 w))
    | 3 => some (.l4class (BitVec.ofNat 3 w))
    | 8 =>
      if w < 4 then some (.l3class (BitVec.ofNat 2 w))
      else if w = 4 then some (.l4class (BitVec.ofNat 3 w))
      else some (.proto8 (BitVec.ofNat 8 w))
    | 16 => some (.etype16 (BitVec.ofNat 16 w))
    | _ => none

/-- The operation the decoder reads from a bare word of the opcode table (no selector there depends
on the configuration). -/
def decodeTableWord (nbits w : Nat) : Option Instr :=
  match tableSelector nbits w with
  | none => none
  | some sel =>
    match decode Config.atReset sel with
    | .ok i => some i
    | .error _ => none

end Sys2Proof
end

