-- ==== Sys2Proof/Machine/Sequencer.lean ====
section
/-! DEFINITION. The stage sequencer (`47` R230, R233): the operation without a decoder, which selector
the stage in progress is decoded from, and whose turn it is. -/

namespace Sys2Proof.Machine

/-- XNONE, the transport stage for a class without a decoder (`47` R234). -/
def execXnone (s : State) : Result := .next (finish .ok s)

/-- What the operation of the stage in progress is chosen by (`47` R233): nothing at S_ETH and
S_ARPD, L3_CLASS at S_NET, L4_CLASS at S_XPORT. -/
def stageSelector (s : State) : Selector :=
  match s.stage with
  | .sEth => .stage .sEth
  | .sNet => .l3class (l3Code s.record.eth.l3Class)
  | .sArpd => .stage .sArpd
  | .sXport => .l4class (l4Code s.record.net.l4Class)
  | .sEnd => .stage .sEnd

/-- Whose move the next step makes. -/
inductive Turn where
  /-- The reset input. -/
  | reset
  /-- The host, with one port access. -/
  | host (r : PortReq)
  /-- The parser, with the stage in progress. -/
  | parser
  /-- Nobody: the host is quiet and no decode runs (`70` R320, "does nothing until the host gives START"). -/
  | nobody
deriving DecidableEq, Repr

/-- The host's next move decides; where it is quiet, or no move of it is left, the turn is the
parser's while BUSY (assumption log 4). -/
def turn (s : State) : Turn :=
  match s.host with
  | .reset :: _ => .reset
  | .port r :: _ => .host r
  | .quiet :: _ => if s.runState = .busy then .parser else .nobody
  | [] => if s.runState = .busy then .parser else .nobody

/-- The state with the host's next move taken off. -/
def takeMove (s : State) : State := s.setHost s.host.tail

/-- The selector the next step decodes, where there is one. -/
def nextSelector (s : State) : Option Selector :=
  match turn s with
  | .host r => some (.port r)
  | .parser => some (stageSelector s)
  | .reset | .nobody => none

/-- Put the machine where its very next step decodes `sel` (the host's query `withFetchWord`): a port
access becomes the host's next move; a stage selector becomes the stage in progress, with the class
register that holds it; an ethertype or a protocol byte is placed in the frame where ETH or NET4
reads it, with the lengths that let that operation reach it (log 11). -/
def placeSelector (s : State) : Selector → State
  | .port r => s.setHost [.port r]
  | .stage st => { s.setHost [] with runState := .busy, stage := st }
  | .l3class c =>
    let cls : L3Class := if c = 1#2 then .ipv4 else if c = 2#2 then .ipv6 else if c = 3#2 then .arp else .unknown
    { (s.setHost []).setL3 cls with runState := .busy, stage := .sNet }
  | .l4class c =>
    let cls : L4Class :=
      if c = 1#3 then .tcp else if c = 2#3 then .udp else if c = 3#3 then .icmp
      else if c = 4#3 then .icmpv6 else if c = 5#3 then .arp else .unknown
    { (s.setHost []).setL4 cls with runState := .busy, stage := .sXport }
  | .etype16 e =>
    { s.setHost [] with
      fb := Memory.set (Memory.set s.fb s.cfg.ethOffEtype.off (e.extractLsb' 8 8))
        (s.cfg.ethOffEtype.off + 1) (e.extractLsb' 0 8)
      frameLen := s.cfg.ethHdrLen, runState := .busy, stage := .sEth }
  | .proto8 p =>
    let hdr := s.cfg.ethHdrLen
    let len := s.cfg.ipv4MinLen
    { (s.setHost []).setEth { s.record.eth with l3Class := .ipv4, pay2Off := hdr, pay2Len := len } with
      fb := Memory.set s.fb (hdr + s.cfg.ipv4OffProto.off) p
      frameLen := hdr + len, runState := .busy, stage := .sNet }

end Sys2Proof.Machine
end

