-- ==== Sys2Proof/Machine/Transport.lean ====
section
/-! DEFINITION. The transport decoder's field extraction (`45`), over the layer-3 payload view. -/

namespace Sys2Proof.Machine

/-- TCPD (`45` R201). The test is against the header size although the highest byte read is 15. -/
def execTcpd (s : State) : Result :=
  let base := s.record.net.pay3Off
  requireLen s.record.net.pay3Len s.cfg.tcpMinLen .tcpd s <|
    readField s base s.cfg.tcpOffSport fun sport =>
    readField s base s.cfg.tcpOffDport fun dport =>
    readField s base s.cfg.tcpOffSeq fun seq =>
    readField s base s.cfg.tcpOffAck fun ack =>
    readField s base s.cfg.tcpOffFlags fun flags =>
    readField s base s.cfg.tcpOffWindow fun window =>
    .next (finish .ok (s.setTcp
      { sport := BitVec.ofNat 16 sport
        dport := BitVec.ofNat 16 dport
        seq := BitVec.ofNat 32 seq
        ack := BitVec.ofNat 32 ack
        flags := BitVec.ofNat 8 flags
        window := BitVec.ofNat 16 window }))

/-- UDPD (`45` R202). The length field is compared with nothing, the checksum is not verified. -/
def execUdpd (s : State) : Result :=
  let base := s.record.net.pay3Off
  requireLen s.record.net.pay3Len s.cfg.udpMinLen .udpd s <|
    readField s base s.cfg.udpOffSport fun sport =>
    readField s base s.cfg.udpOffDport fun dport =>
    readField s base s.cfg.udpOffLen fun len =>
    readField s base s.cfg.udpOffCsum fun csum =>
    .next (finish .ok (s.setUdp
      { sport := BitVec.ofNat 16 sport
        dport := BitVec.ofNat 16 dport
        len := BitVec.ofNat 16 len
        csum := BitVec.ofNat 16 csum }))

end Sys2Proof.Machine
end

