-- ==== Sys2Proof/Machine/Dispatch.lean ====
section
/-! DEFINITION. exec: one arm per operation, each a direct call of its meaning. -/

namespace Sys2Proof.Machine

def exec (i : Instr) (s : State) : Host.Outcome State Fault Refusal :=
  match i with
  | .eth => Sys2Proof.Machine.execEth s
  | .l3dIpv4 => Sys2Proof.Machine.execL3dIpv4 s
  | .l3dArp => Sys2Proof.Machine.execL3dArp s
  | .l3dIpv6 => Sys2Proof.Machine.execL3dIpv6 s
  | .l3dUnknown e => Sys2Proof.Machine.execL3dUnknown e s
  | .net4 => Sys2Proof.Machine.execNet4 s
  | .net6 => Sys2Proof.Machine.execNet6 s
  | .netarp => Sys2Proof.Machine.execNetarp s
  | .netunk => Sys2Proof.Machine.execNetunk s
  | .arpd => Sys2Proof.Machine.execArpd s
  | .l4dTcp => Sys2Proof.Machine.execL4dTcp s
  | .l4dUdp => Sys2Proof.Machine.execL4dUdp s
  | .l4dIcmp => Sys2Proof.Machine.execL4dIcmp s
  | .l4dIcmp6 => Sys2Proof.Machine.execL4dIcmp6 s
  | .l4dUnknown p => Sys2Proof.Machine.execL4dUnknown p s
  | .tcpd => Sys2Proof.Machine.execTcpd s
  | .udpd => Sys2Proof.Machine.execUdpd s
  | .icmpd => Sys2Proof.Machine.execIcmpd s
  | .icmp6d => Sys2Proof.Machine.execIcmp6d s
  | .xnone => Sys2Proof.Machine.execXnone s
  | .start => Sys2Proof.Machine.execStart s
  | .cnop => Sys2Proof.Machine.execCnop s
  | .wfb a b => Sys2Proof.Machine.execWfb a b s
  | .wflen n => Sys2Proof.Machine.execWflen n s
  | .rreg k => Sys2Proof.Machine.execRreg k s

end Sys2Proof.Machine
end

