-- ==== Sys2Proof/Machine/Selected.lean ====
section
/-! DEFINITION. Running what a selector selects: decoded, then executed (`30` R117, `47` R233). -/

namespace Sys2Proof.Machine

/-- Decode a selector and run its operation. An ignored register write has no effect (`20` R78); a
stage without an operation cannot be in progress (`47` R233). -/
def runSelector (sel : Selector) (s : State) : Host.Outcome State Fault Refusal :=
  match decode s.cfg sel with
  | .ok i => exec i s
  | .error (.ignoredWrite _) => .next s
  | .error (.noStageOperation _) => .fault .noOperation
  | .error (.reservedL4Class _) => .fault .noOperation

end Sys2Proof.Machine
end

