-- ==== Sys2Proof/Machine/Step.lean ====
section
/-! DEFINITION. One step: the move whose turn it is, decoded and executed (`47` R230, R233; assumption
log 4 and 5). -/

namespace Sys2Proof.Machine

/-- One step of the machine. -/
def step (s : State) : Host.Outcome State Fault Refusal :=
  match turn s with
  | .reset => .next (hardReset (takeMove s))
  | .host r => runSelector (.port r) (takeMove s)
  | .parser => runSelector (stageSelector s) (takeMove s)
  | .nobody => .next (takeMove s)

/-- The host's query: `s` with the table's word placed where the very next step decodes it. -/
def State.withFetchWord (s : State) (nbits w : Nat) : State :=
  match tableSelector nbits w with
  | some sel => placeSelector s sel
  | none => s

end Sys2Proof.Machine
end

