-- ==== Sys2Proof/Machine/Formatters.lean ====
section
/-! DEFINITION. The host-side companion (`48`): the text functions the spec gives in full. They are
software over record registers, no hardware (`00` R4, `48` R260); no step calls them. Texts are lists
of characters. What the spec gives no text for (summary, hint, ICMP description, other tags) is not
here (`48` R266 to R268; assumption log 12). -/

namespace Sys2Proof.Machine

/-- One hexadecimal digit, letters upper or lower case. -/
def hexDigit (upper : Bool) (d : Nat) : Char :=
  if d < 10 then Char.ofNat (48 + d)
  else if upper then Char.ofNat (55 + d) else Char.ofNat (87 + d)

/-- Byte `i` of a register of `8 * k` bits: byte 0 is the most significant (`48` R260). -/
def regByte (k i v : Nat) : Nat := v / 256 ^ (k - 1 - i) % 256

/-- Exactly two upper-case hexadecimal digits (`48` R261). -/
def hexByte2 (b : Nat) : List Char := [hexDigit true (b / 16), hexDigit true (b % 16)]

/-- The MacAddress Formatter (`48` R261). -/
def macText (m : Mac) : List Char :=
  let b := fun i => hexByte2 (regByte 6 i m.toNat)
  b 0 ++ [':'] ++ b 1 ++ [':'] ++ b 2 ++ [':'] ++ b 3 ++ [':'] ++ b 4 ++ [':'] ++ b 5

/-- A byte in decimal without leading zeros (`48` R262). -/
def decimalByte (b : Nat) : List Char :=
  let d := fun n => Char.ofNat (48 + n % 10)
  if b < 10 then [d b]
  else if b < 100 then [d (b / 10), d b]
  else [d (b / 100), d (b / 10), d b]

/-- Dotted decimal of bits 31 to 0 (`48` R262). -/
def dottedDecimal (a : Addr) : List Char :=
  let b := fun i => decimalByte (regByte 4 i (a.toNat % 2 ^ 32))
  b 0 ++ ['.'] ++ b 1 ++ ['.'] ++ b 2 ++ ['.'] ++ b 3

/-- `hex(x)` of `48` R263: one or two digits, no leading zero. -/
def hexByte (upper : Bool) (b : Nat) : List Char :=
  if b < 16 then [hexDigit upper b] else [hexDigit upper (b / 16), hexDigit upper (b % 16)]

/-- One 2-byte group of the IPv6 text, its colon included (`48` R263). -/
def ipv6Group (upper : Bool) (hi lo : Nat) : List Char :=
  if hi = 0 ∧ lo = 0 then ['0', ':']
  else if hi = 0 then hexByte upper lo ++ [':']
  else hexByte upper hi ++ hexByte upper lo ++ [':']

/-- The IPv6 Text Formatter (`48` R263), every group followed by a colon, the eighth included;
`upper` is the open parameter IPV6_HEX_CASE (D35). -/
def ipv6Text (upper : Bool) (a : Addr) : List Char :=
  (List.range 8).flatMap fun g =>
    ipv6Group upper (regByte 16 (2 * g) a.toNat) (regByte 16 (2 * g + 1) a.toNat)

/-- The text of SRC_ADDR or DST_ADDR by layer-3 class (`48` R262, R263, R270). -/
def addrText (upper : Bool) (c : L3Class) (a : Addr) : List Char :=
  match c with
  | .ipv6 => ipv6Text upper a
  | .ipv4 | .arp | .unknown => dottedDecimal a

/-- "Who has TARGET? Tell SENDER", "SENDER is at MAC", or "ARP" (`48` R264). -/
def arpDescription (s : State) : List Char :=
  let sender := dottedDecimal s.record.net.srcAddr
  let target := dottedDecimal s.record.net.dstAddr
  if s.record.arp.opcode = 1#16 then
    ['W', 'h', 'o', ' ', 'h', 'a', 's', ' '] ++ target ++ ['?', ' ', 'T', 'e', 'l', 'l', ' '] ++ sender
  else if s.record.arp.opcode = 2#16 then
    sender ++ [' ', 'i', 's', ' ', 'a', 't', ' '] ++ macText s.record.arp.smac
  else ['A', 'R', 'P']

/-- The transport tag, where the spec gives one (`48` R265). -/
def transportTag : L4Class → Option (List Char)
  | .tcp => some ['T', 'C', 'P']
  | .udp => some ['U', 'D', 'P']
  | .unknown | .icmp | .icmpv6 | .arp => none

/-- What the spec settles of the record handed to the renderer (`48` R270): there is one exactly when
STATUS = OK. DESIGN CHOICE, assumption log 12: which of R270's six fields carries the ARP description is
open (R270 names transportSummary for it, "which the document does not say in so many words", and `91`
N32 leaves it open), so the description has a field of its own beside the tag. The fields whose texts
the spec does not word, transportSummary and presentationHint, are left out. -/
structure RenderRecord where
  sourceAddress : List Char
  destinationAddress : List Char
  transportTag : Option (List Char)
  /-- The text of R264, present when V_ARP = 1. Its place in the record is the model's (log 12). -/
  arpDescription : Option (List Char)
  frameLength : Nat
deriving DecidableEq, Repr

/-- The renderer's record of a decoded frame (`48` R270, R272). -/
def renderRecord (upper : Bool) (s : State) : Option RenderRecord :=
  if s.status = .ok then
    some
      { sourceAddress := addrText upper s.record.eth.l3Class s.record.net.srcAddr
        destinationAddress := addrText upper s.record.eth.l3Class s.record.net.dstAddr
        transportTag := transportTag s.record.net.l4Class
        arpDescription := if s.vArp then some (arpDescription s) else none
        frameLength := s.frameLen }
  else none

end Sys2Proof.Machine
end

