-- ==== Sys2Proof/Machine/WholeDecode.lean ====
section
/-! DEFINITION. The decode as one function (`47` R246), written
apart from the operations; that the stages compute it is a claim. -/

namespace Sys2Proof.Machine

/-- What a decode leaves beside FRAME_LEN, STATE and STAGE (`47` R246). -/
structure DecodeOutcome where
  status : Status
  errStage : ErrStage
  record : Record
deriving DecidableEq, Repr

/-- `UNDERFLOW(e)`: every record register 0. -/
def outcomeUnderflow (e : ErrStage) : DecodeOutcome := ⟨.underflow, e, Record.zero⟩

/-- `OK with ...`. -/
def outcomeOk (r : Record) : DecodeOutcome := ⟨.ok, .none, r⟩

/-- The field `f` of the view that starts at `base`. -/
def readBy (B : Nat → Nat → Nat) (base : Nat) (f : Slice) : Nat := B (base + f.off) f.size

/-- The Ethernet part `L2` for a frame of `n` bytes. -/
def wholeEth (c : Config) (n : Nat) (B : Nat → Nat → Nat) : EthRegs :=
  { dstMac := BitVec.ofNat 48 (readBy B 0 c.ethOffDst)
    srcMac := BitVec.ofNat 48 (readBy B 0 c.ethOffSrc)
    dot1q := BitVec.ofNat 32 (readBy B 0 c.ethOffTag)
    etype := BitVec.ofNat 16 (readBy B 0 c.ethOffEtype)
    l3Class := l3d c (BitVec.ofNat 16 (readBy B 0 c.ethOffEtype))
    pay2Off := c.ethHdrLen
    pay2Len := n - c.ethHdrLen }

/-- `xport(L2, L3)`. -/
def wholeXport (c : Config) (B : Nat → Nat → Nat) (r : Record) : DecodeOutcome :=
  let l := r.net.pay3Len
  let rd := readBy B r.net.pay3Off
  match r.net.l4Class with
  | .tcp =>
    if l < c.tcpMinLen then outcomeUnderflow .tcpd
    else outcomeOk { r with tcp :=
      { sport := BitVec.ofNat 16 (rd c.tcpOffSport), dport := BitVec.ofNat 16 (rd c.tcpOffDport)
        seq := BitVec.ofNat 32 (rd c.tcpOffSeq), ack := BitVec.ofNat 32 (rd c.tcpOffAck)
        flags := BitVec.ofNat 8 (rd c.tcpOffFlags), window := BitVec.ofNat 16 (rd c.tcpOffWindow) } }
  | .udp =>
    if l < c.udpMinLen then outcomeUnderflow .udpd
    else outcomeOk { r with udp :=
      { sport := BitVec.ofNat 16 (rd c.udpOffSport), dport := BitVec.ofNat 16 (rd c.udpOffDport)
        len := BitVec.ofNat 16 (rd c.udpOffLen), csum := BitVec.ofNat 16 (rd c.udpOffCsum) } }
  | .icmp =>
    if l < c.icmpMinLen then outcomeUnderflow .icmpd
    else outcomeOk { r with icmp :=
      { type := BitVec.ofNat 8 (rd c.icmpOffType), code := BitVec.ofNat 8 (rd c.icmpOffCode) } }
  | .icmpv6 =>
    if l < c.icmp6MinLen then outcomeUnderflow .icmp6d
    else outcomeOk { r with icmp :=
      { type := BitVec.ofNat 8 (rd c.icmpOffType), code := BitVec.ofNat 8 (rd c.icmpOffCode) } }
  | .unknown => outcomeOk r
  | .arp => outcomeOk r

/-- `decode(n, FB)` (`47` R246), with `B a k` for `MemRead(a, k)`. R246 writes the frame indices as
numbers; here each is the header length plus the named offset of `00` R7. -/
def wholeDecode (c : Config) (n : Nat) (B : Nat → Nat → Nat) : DecodeOutcome :=
  if n < c.ethHdrLen then outcomeUnderflow .eth
  else
    let hdr := c.ethHdrLen
    let len2 := n - hdr
    let rd := readBy B hdr
    let r := { Record.zero with eth := wholeEth c n B }
    match r.eth.l3Class with
    | .unknown => ⟨.l3Unknown, .none, r⟩
    | .ipv4 =>
      if len2 < c.ipv4MinLen then outcomeUnderflow .net4
      else wholeXport c B { r with net :=
        { srcAddr := BitVec.ofNat 128 (rd c.ipv4OffSrc), dstAddr := BitVec.ofNat 128 (rd c.ipv4OffDst)
          l4Class := l4d c (BitVec.ofNat 8 (rd c.ipv4OffProto))
          pay3Off := hdr + c.ipv4MinLen, pay3Len := len2 - c.ipv4MinLen } }
    | .ipv6 =>
      if len2 < c.ipv6MinLen then outcomeUnderflow .net6
      else wholeXport c B { r with net :=
        { srcAddr := BitVec.ofNat 128 (rd c.ipv6OffSrc), dstAddr := BitVec.ofNat 128 (rd c.ipv6OffDst)
          l4Class := l4d c (BitVec.ofNat 8 (rd c.ipv6OffNh))
          pay3Off := hdr + c.ipv6MinLen, pay3Len := len2 - c.ipv6MinLen } }
    | .arp =>
      if len2 < c.arpnetMinLen then outcomeUnderflow .netarp
      else if len2 < c.arpMinLen then outcomeUnderflow .arpd
      else outcomeOk { r with
        net :=
          { srcAddr := BitVec.ofNat 128 (rd c.arpnetOffSrc)
            dstAddr := BitVec.ofNat 128 (rd c.arpnetOffDst)
            l4Class := .arp, pay3Off := hdr + c.arpnetConsumed, pay3Len := len2 - c.arpnetConsumed }
        arp :=
          { opcode := BitVec.ofNat 16 (rd c.arpOffOpcode), smac := BitVec.ofNat 48 (rd c.arpOffSmac)
            tmac := BitVec.ofNat 48 (rd c.arpOffTmac) } }

/-- The state a decode that starts in `s` ends in (`47` R246): the outcome's registers, STATE = DONE
and FRAME_LEN as START left it. -/
def decodedState (s : State) : State :=
  let o := wholeDecode s.cfg s.frameLen (field s)
  { s with
    status := o.status, errStage := o.errStage, record := o.record, stage := .sEnd, runState := .done }

end Sys2Proof.Machine
end

