-- ==== Sys2Proof/Safety.lean ====
section
/-! DEFINITION. What a state the machine can be in looks like, in the terms the claims use. `StateInv` rules
out the states no run reaches; that reset meets it and every step keeps it are claims. -/

namespace Sys2Proof.Machine

/-- The layer-2 view and class agree, as after a successful ETH: PAY2_OFF and PAY2_LEN with FRAME_LEN, and
L3_CLASS with ETYPE (`40` R142, `41` R155). DST_MAC, SRC_MAC, DOT1Q and ETYPE are not tied to the frame. -/
abbrev EthDone (s : State) : Prop :=
  s.record.eth.pay2Off = 18 ∧
  s.record.eth.pay2Off + s.record.eth.pay2Len = s.frameLen ∧
  s.record.eth.l3Class = l3d s.cfg s.record.eth.etype

/-- The layer-3 view, classes and address widths agree, as after a successful network stage (`10` R37,
R39, `20` R79, R80, `43` R186). The addresses and the class are not tied to the bytes of the frame. -/
abbrev NetDone (s : State) : Prop :=
  s.record.eth.l3Class ≠ .unknown ∧
  s.record.net.pay3Off = (if s.record.eth.l3Class = .ipv6 then 58 else 38) ∧
  s.record.net.pay3Off + s.record.net.pay3Len = s.frameLen ∧
  (s.record.net.l4Class = .arp ↔ s.record.eth.l3Class = .arp) ∧
  (s.record.eth.l3Class ≠ .ipv6 →
    s.record.net.srcAddr.toNat < 2 ^ 32 ∧ s.record.net.dstAddr.toNat < 2 ^ 32)

/-- The registers of the transport alternatives are 0 (`45` R205). -/
abbrev XportZero (s : State) : Prop :=
  s.record.tcp = TcpRegs.zero ∧ s.record.udp = UdpRegs.zero ∧ s.record.icmp = IcmpRegs.zero

/-- Registers 15 to 34 are 0 (`42` R164). -/
abbrev BeyondEthZero (s : State) : Prop :=
  s.record.net = NetRegs.zero ∧ s.record.arp = ArpRegs.zero ∧ XportZero s

/-- FB is in canonical form and holds nothing outside its FRAME_MAX bytes (`10` R21). -/
abbrev BufferOk (s : State) : Prop :=
  Memory.wf s.fb = true ∧ Memory.below s.cfg.frameMax s.fb = true

/-- Every length is one the LEN_W-bit registers can hold and FB can back (`00` R11). -/
abbrev LengthsOk (s : State) : Prop := s.flen ≤ s.cfg.frameMax ∧ s.frameLen ≤ s.cfg.frameMax

/-- STATE, STATUS, ERR_STAGE and STAGE agree (`10` R24 to R26, R29, `60` R282). -/
abbrev OutcomeOk (s : State) : Prop :=
  (s.runState = .busy ↔ s.stage ≠ .sEnd) ∧
  (s.runState = .done ↔ s.status ≠ .none) ∧
  (s.status = .underflow ↔ s.errStage ≠ .none)

/-- At each stage and after each outcome the groups of record registers that no operation has written in
this decode are 0 (`10` R30), and the views and classes of the groups written agree. What the written
groups extracted is not tied to the frame here: `decodedState` says that for a whole decode. -/
abbrev RecordOk (s : State) : Prop :=
  (s.runState = .idle → s.record = Record.zero) ∧
  (s.stage = .sEth → s.record = Record.zero) ∧
  (s.stage = .sNet → EthDone s ∧ BeyondEthZero s) ∧
  (s.stage = .sArpd →
    EthDone s ∧ NetDone s ∧ s.record.eth.l3Class = .arp ∧ s.record.arp = ArpRegs.zero ∧ XportZero s) ∧
  (s.stage = .sXport →
    EthDone s ∧ NetDone s ∧ (s.record.eth.l3Class ≠ .arp → s.record.arp = ArpRegs.zero) ∧ XportZero s) ∧
  (s.status = .ok →
    EthDone s ∧ NetDone s ∧
    (s.record.eth.l3Class ≠ .arp → s.record.arp = ArpRegs.zero) ∧
    (s.record.net.l4Class ≠ .tcp → s.record.tcp = TcpRegs.zero) ∧
    (s.record.net.l4Class ≠ .udp → s.record.udp = UdpRegs.zero) ∧
    (s.record.net.l4Class ≠ .icmp ∧ s.record.net.l4Class ≠ .icmpv6 → s.record.icmp = IcmpRegs.zero)) ∧
  (s.status = .l3Unknown → EthDone s ∧ s.record.eth.l3Class = .unknown ∧ BeyondEthZero s) ∧
  (s.status = .underflow → s.record = Record.zero)

/-- The invariant of the machine. -/
abbrev StateInv (s : State) : Prop :=
  s.cfg.ok ∧ BufferOk s ∧ LengthsOk s ∧ OutcomeOk s ∧ RecordOk s

/-- A layer-2 payload that lies inside the frame, and a frame that lies inside FB: what the network
and ARP operations need beside their length test (`20` R77, R79). -/
abbrev Pay2Inside (s : State) : Prop :=
  s.record.eth.pay2Off + s.record.eth.pay2Len ≤ s.frameLen ∧ s.frameLen ≤ s.cfg.frameMax

/-- The same for the layer-3 payload and the transport operations. -/
abbrev Pay3Inside (s : State) : Prop :=
  s.record.net.pay3Off + s.record.net.pay3Len ≤ s.frameLen ∧ s.frameLen ≤ s.cfg.frameMax

/-- Everything a parser operation leaves alone (`10` R49): the configuration, FB, FLEN, FRAME_LEN, and
what stands outside the block. -/
abbrev SameOutside (s t : State) : Prop :=
  t.cfg = s.cfg ∧ t.fb = s.fb ∧ t.flen = s.flen ∧ t.frameLen = s.frameLen ∧ t.host = s.host ∧
  t.readData = s.readData ∧ t.draws = s.draws ∧ t.resets = s.resets

/-- STATE, STATUS and ERR_STAGE are as they were. -/
abbrev SameRun (s t : State) : Prop :=
  t.runState = s.runState ∧ t.status = s.status ∧ t.errStage = s.errStage

/-- Underflow entry with code `e` took `s` to `t` (`60` R283), with everything it leaves alone. -/
abbrev UnderflowEntry (e : ErrStage) (s t : State) : Prop :=
  t.record = Record.zero ∧ t.status = .underflow ∧ t.errStage = e ∧ t.stage = .sEnd ∧
  t.runState = .done ∧ SameOutside s t

/-- A decode ended in `t` with STATUS `code` and no error (`47` R235); ERR_STAGE is as it was. -/
abbrev FinishEntry (code : Status) (s t : State) : Prop :=
  t.status = code ∧ t.errStage = s.errStage ∧ t.stage = .sEnd ∧ t.runState = .done ∧ SameOutside s t

/-- A host operation left the parser's registers and the configuration alone (`10` R49): all of the
block but FB and FLEN. -/
abbrev SameParser (s t : State) : Prop :=
  t.cfg = s.cfg ∧ SameRun s t ∧ t.frameLen = s.frameLen ∧ t.stage = s.stage ∧ t.record = s.record ∧
  t.host = s.host ∧ t.resets = s.resets

/-- How far a stage is from the end of the decode (`47` R230). -/
def stageRank : Stage → Nat
  | .sEth => 4 | .sNet => 3 | .sArpd => 2 | .sXport => 1 | .sEnd => 0

/-- The state just after an accepted START, with no host move left, a frame that fits in FB and parameters
within their bounds: what a decode runs from (`47` R231, R232). -/
abbrev DecodeBegins (s : State) : Prop :=
  s.runState = .busy ∧ s.stage = .sEth ∧ s.status = .none ∧ s.errStage = .none ∧
  s.record = Record.zero ∧ s.host = [] ∧ s.frameLen ≤ s.cfg.frameMax ∧ s.cfg.ok

/-- The host's only move left is START, which is accepted, the frame fits in FB and the parameters are
within their bounds (`00` R8). -/
abbrev StartPending (s : State) : Prop :=
  s.runState ≠ .busy ∧ s.host = [.port (.writeReg 0 1)] ∧ s.flen ≤ s.cfg.frameMax ∧ s.cfg.ok

/-- `k` steps, as long as each answers a next state. -/
def runSteps : Nat → State → Result
  | 0, s => .next s
  | k + 1, s =>
    match step s with
    | .next t => runSteps k t
    | .fault f => .fault f
    | .refused r => .refused r

/-- The result of a run (`47` R243): STATUS, ERR_STAGE, FRAME_LEN and the record registers. -/
abbrev SameResult (s t : State) : Prop :=
  t.status = s.status ∧ t.errStage = s.errStage ∧ t.frameLen = s.frameLen ∧ t.record = s.record

/-- Every byte of FB reads in `t` as it read in `s`. -/
abbrev SameBytes (s t : State) : Prop := ∀ a, fbByte t a = fbByte s a

end Sys2Proof.Machine
end

