-- ==== Sys2Proof/Certificates/Slice0/Obligations.lean ====
section
/-! DEFINITION. The statements about RBFP for the provers. `R<n>` are the rules of `spec/`. -/

open Sys2Proof Sys2Proof.Machine

/-! ## Reset -/

/-- R48, the table of reset values. FB is unspecified: no byte of it has been written. -/
def Obligations.ResetRegisterValues : Prop :=
  State.reset.runState = .idle ∧ State.reset.status = .none ∧ State.reset.errStage = .none ∧
  State.reset.flen = 0 ∧ State.reset.frameLen = 0 ∧ State.reset.valid = 0 ∧
  State.reset.stage = .sEnd ∧ State.reset.record = Record.zero ∧
  (∀ r, regValue State.reset r = 0) ∧ (∀ i, Memory.get? State.reset.fb i = none)

/-- R320, R321: the reset event takes every state, BUSY included, to the values of R48; FB is
unspecified anew. The count of resets, the host's remaining moves and the read port are the model's
own (logs 2, 4, 8). -/
def Obligations.ResetEventFromEveryState : Prop :=
  ∀ (s : State) (rest : List HostMove), s.host = .reset :: rest →
    ∃ t, step s = .next t ∧
      t.runState = .idle ∧ t.status = .none ∧ t.errStage = .none ∧ t.flen = 0 ∧ t.frameLen = 0 ∧
      t.stage = .sEnd ∧ t.record = Record.zero ∧ (∀ i, Memory.get? t.fb i = none) ∧
      t.cfg = s.cfg ∧ t.resets = s.resets + 1 ∧ t.host = rest ∧ t.readData = s.readData ∧
      t.draws = s.draws

/-- R24, R321: nothing takes the block back to IDLE but reset. -/
def Obligations.OnlyResetReturnsToIdle : Prop :=
  ∀ s t : State, step s = .next t → t.runState = .idle → s.runState = .idle ∨ turn s = .reset

/-! ## Invariants of every step -/

/-- The invariant holds right after reset. -/
def Obligations.ResetMeetsInv : Prop := StateInv State.reset

/-- Every step keeps the invariant: FB canonical and inside its bounds, lengths that fit, STATE,
STATUS, ERR_STAGE and STAGE in agreement, the groups of record registers not yet written 0, and the views
and classes of the written ones in agreement with FRAME_LEN and with each other (R21, R24 to R30, R142,
R186, R205, R282). It ties no other extracted value to the bytes of the frame: that is
StagesComputeWholeDecode's, and each operation's own statement. -/
def Obligations.StepKeepsInv : Prop := ∀ s t : State, StateInv s → step s = .next t → StateInv t

/-- R77, R113: from a state that meets the invariant a step always answers a next state; no MemRead
leaves the frame, nothing traps, nothing is refused. The faults it excludes are the model's (log 6). -/
def Obligations.StepNeverStops : Prop := ∀ s : State, StateInv s → ∃ t, step s = .next t

/-- R230: a decode moves always downward: whenever the parser has the turn, STAGE comes closer to
S_END. -/
def Obligations.ParserMovesDownward : Prop :=
  ∀ s t : State, turn s = .parser → step s = .next t → stageRank t.stage < stageRank s.stage

/-- R245: every outcome a decode can end in, as (STATUS, ERR_STAGE, VALID). -/
def Obligations.EndedDecodeOutcomes : Prop :=
  ∀ s : State, StateInv s → s.runState = .done →
    (s.status = .underflow ∧ s.errStage ≠ .none ∧ s.valid = 0) ∨
    (s.status = .l3Unknown ∧ s.errStage = .none ∧ s.valid = 1) ∨
    (s.status = .ok ∧ s.errStage = .none ∧ s.record.eth.l3Class = .arp ∧ s.valid = 7) ∨
    (s.status = .ok ∧ s.errStage = .none ∧ s.record.net.l4Class = .unknown ∧ s.valid = 3) ∨
    (s.status = .ok ∧ s.errStage = .none ∧ s.valid = 11 ∧
      s.record.net.l4Class ∈ [L4Class.tcp, .udp, .icmp, .icmpv6])

/-! ## Decoding and the step -/

/-- A step runs the decoded operation: `turn` says whose move it is, `nextSelector` what it decodes,
`takeMove` takes the host's move off (log 4); a reset and an idle turn decode nothing. -/
def Obligations.StepRunsDecodedOperation : Prop :=
  ∀ s : State,
    (∀ sel i, nextSelector s = some sel → decode s.cfg sel = .ok i → i.wf s.cfg = true →
      step s = exec i (takeMove s)) ∧
    (turn s = .reset → step s = .next (hardReset (takeMove s))) ∧
    (turn s = .nobody → step s = .next (takeMove s))

/-- R111, R160, R200, R233: the operation of each stage. That a step with no host move left runs the
stage in progress is the model's choice (logs 4, 5). -/
def Obligations.StageRunsItsOperation : Prop :=
  ∀ s : State, s.runState = .busy → s.host = [] →
    (s.stage = .sEth → step s = exec .eth s) ∧
    (s.stage = .sArpd → step s = exec .arpd s) ∧
    (s.stage = .sNet →
      (s.record.eth.l3Class = .ipv4 → step s = exec .net4 s) ∧
      (s.record.eth.l3Class = .ipv6 → step s = exec .net6 s) ∧
      (s.record.eth.l3Class = .arp → step s = exec .netarp s) ∧
      (s.record.eth.l3Class = .unknown → step s = exec .netunk s)) ∧
    (s.stage = .sXport →
      (s.record.net.l4Class = .tcp → step s = exec .tcpd s) ∧
      (s.record.net.l4Class = .udp → step s = exec .udpd s) ∧
      (s.record.net.l4Class = .icmp → step s = exec .icmpd s) ∧
      (s.record.net.l4Class = .icmpv6 → step s = exec .icmp6d s) ∧
      (s.record.net.l4Class = .unknown → step s = exec .xnone s) ∧
      (s.record.net.l4Class = .arp → step s = exec .xnone s))

/-- A few selectors written out from R109 to R112, with the operations they name. -/
def Obligations.SpecSelectorsDecode : Prop :=
  ∀ p : Params,
    decode p.config (.etype16 0b1000011011011101#16) = .ok .l3dIpv6 ∧
    decode p.config (.l3class 0b01#2) = .ok .net4 ∧
    decode p.config (.proto8 0b00111010#8) = .ok .l4dIcmp6 ∧
    decode p.config (.l4class 0b010#3) = .ok .udpd ∧
    decode p.config (.stage .sArpd) = .ok .arpd ∧
    decode p.config (.port (.writeReg 0 0xFFFFFFFF)) = .ok .start ∧
    decode p.config (.port (.writeReg 0 0xFFFFFFFE)) = .ok .cnop

/-- Decode and encode agree: every well-formed operation is decoded from its own encoding, with every
operand at every value, on every configuration. -/
def Obligations.DecodeOfEncode : Prop :=
  ∀ (p : Params) (i : Instr), i.wf p.config = true → decode p.config (encode p.config i) = .ok i

/-- The other direction: a selector that can be expressed is the encoding of what it decodes to. The
one exception is the L4_CLASS code 5 (ARP): it shares XNONE with the code 0 (R111). -/
def Obligations.EncodeOfDecode : Prop :=
  ∀ (p : Params) (sel : Selector) (i : Instr), sel.wf p.config = true → sel ≠ .l4class 5#3 →
    decode p.config sel = .ok i → encode p.config i = sel

/-- Whatever is decoded is well-formed, from any selector at all. -/
def Obligations.DecodedIsWellFormed : Prop :=
  ∀ (p : Params) (sel : Selector) (i : Instr), decode p.config sel = .ok i → i.wf p.config = true

/-! ## The dispatchers -/

/-- R151 to R154: the four rows of the layer-3 dispatcher, their corner cases, and what each does:
L3_CLASS is written and nothing else. That a row run alone is this store is the model's reading
(log 7). -/
def Obligations.L3dRows : Prop :=
  ∀ (p : Params) (s : State) (e : BitVec 16),
    (decode p.config (.etype16 0x0800#16) = .ok .l3dIpv4 ∧ exec .l3dIpv4 s = .next (s.setL3 .ipv4)) ∧
    (decode p.config (.etype16 0x0806#16) = .ok .l3dArp ∧ exec .l3dArp s = .next (s.setL3 .arp)) ∧
    (decode p.config (.etype16 0x86DD#16) = .ok .l3dIpv6 ∧ exec .l3dIpv6 s = .next (s.setL3 .ipv6)) ∧
    (e ≠ 0x0800#16 → e ≠ 0x0806#16 → e ≠ 0x86DD#16 → decode p.config (.etype16 e) = .ok (.l3dUnknown e)) ∧
    exec (.l3dUnknown e) s = .next (s.setL3 .unknown)

/-- R150: L3D is total, exactly three ethertypes give a known class, and the row an ethertype selects
stores the class L3D gives it. -/
def Obligations.L3dIsTheSelectedRow : Prop :=
  ∀ (p : Params) (e : BitVec 16),
    (l3d p.config e = .ipv4 ↔ e = 0x0800#16) ∧ (l3d p.config e = .arp ↔ e = 0x0806#16) ∧
    (l3d p.config e = .ipv6 ↔ e = 0x86DD#16) ∧
    ∃ i, decode p.config (.etype16 e) = .ok i ∧
      ∀ s, exec i s = .next (s.setL3 (l3d p.config e))

/-- R181 to R185: the five rows of the layer-4 dispatcher, and what each does: L4_CLASS is written
and nothing else. That a row run alone is this store is the model's reading (log 7). -/
def Obligations.L4dRows : Prop :=
  ∀ (p : Params) (s : State) (b : BitVec 8),
    (decode p.config (.proto8 6#8) = .ok .l4dTcp ∧ exec .l4dTcp s = .next (s.setL4 .tcp)) ∧
    (decode p.config (.proto8 17#8) = .ok .l4dUdp ∧ exec .l4dUdp s = .next (s.setL4 .udp)) ∧
    (decode p.config (.proto8 1#8) = .ok .l4dIcmp ∧ exec .l4dIcmp s = .next (s.setL4 .icmp)) ∧
    (decode p.config (.proto8 58#8) = .ok .l4dIcmp6 ∧ exec .l4dIcmp6 s = .next (s.setL4 .icmpv6)) ∧
    (b ≠ 6#8 → b ≠ 17#8 → b ≠ 1#8 → b ≠ 58#8 → decode p.config (.proto8 b) = .ok (.l4dUnknown b)) ∧
    exec (.l4dUnknown b) s = .next (s.setL4 .unknown)

/-- R180: L4D is total, exactly four bytes give a known class, none gives ARP, and the row a byte
selects stores the class L4D gives it. -/
def Obligations.L4dIsTheSelectedRow : Prop :=
  ∀ (p : Params) (b : BitVec 8),
    (l4d p.config b = .tcp ↔ b = 6#8) ∧ (l4d p.config b = .udp ↔ b = 17#8) ∧
    (l4d p.config b = .icmp ↔ b = 1#8) ∧ (l4d p.config b = .icmpv6 ↔ b = 58#8) ∧
    l4d p.config b ≠ .arp ∧
    ∃ i, decode p.config (.proto8 b) = .ok i ∧
      ∀ s, exec i s = .next (s.setL4 (l4d p.config b))

/-- The frame of the dispatch rows: everything but L3_CLASS (L3D) or L4_CLASS (L4D) is unchanged. -/
def Obligations.DispatchRowFrame : Prop :=
  ∀ (s t : State) (i : Instr) (e : BitVec 16) (p : BitVec 8), exec i s = .next t →
    (i ∈ [Instr.l3dIpv4, .l3dArp, .l3dIpv6, .l3dUnknown e] →
      SameOutside s t ∧ SameBytes s t ∧ SameRun s t ∧ t.stage = s.stage ∧
      { t.record.eth with l3Class := s.record.eth.l3Class } = s.record.eth ∧
      t.record.net = s.record.net ∧ t.record.arp = s.record.arp ∧ t.record.tcp = s.record.tcp ∧
      t.record.udp = s.record.udp ∧ t.record.icmp = s.record.icmp) ∧
    (i ∈ [Instr.l4dTcp, .l4dUdp, .l4dIcmp, .l4dIcmp6, .l4dUnknown p] →
      SameOutside s t ∧ SameBytes s t ∧ SameRun s t ∧ t.stage = s.stage ∧
      { t.record.net with l4Class := s.record.net.l4Class } = s.record.net ∧
      t.record.eth = s.record.eth ∧ t.record.arp = s.record.arp ∧ t.record.tcp = s.record.tcp ∧
      t.record.udp = s.record.udp ∧ t.record.icmp = s.record.icmp)

/-! ## The parser's operations -/

/-- R140: ETH, with Underflow(ETH) exactly below 18 bytes. -/
def Obligations.EthOperation : Prop :=
  ∀ s : State,
    decode s.cfg (.stage .sEth) = .ok .eth ∧
    (s.frameLen < 18 → exec .eth s = .next (enterUnderflow .eth s)) ∧
    (18 ≤ s.frameLen → s.frameLen ≤ s.cfg.frameMax →
      exec .eth s = .next ((s.setEth
        { dstMac := BitVec.ofNat 48 (field s 0 6)
          srcMac := BitVec.ofNat 48 (field s 6 6)
          dot1q := BitVec.ofNat 32 (field s 12 4)
          etype := BitVec.ofNat 16 (field s 16 2)
          l3Class := l3d s.cfg (BitVec.ofNat 16 (field s 16 2))
          pay2Off := 18
          pay2Len := s.frameLen - 18 }).setStage .sNet))

/-- R142: after a successful ETH the layer-2 payload is the frame less its 18 header bytes. -/
def Obligations.EthPayloadFollowsHeader : Prop :=
  ∀ s t : State, exec .eth s = .next t → t.stage = .sNet →
    t.record.eth.pay2Off = 18 ∧ t.record.eth.pay2Off + t.record.eth.pay2Len = t.frameLen

/-- R161: NET4, with Underflow(NET4) exactly below 20 bytes. -/
def Obligations.Net4Operation : Prop :=
  ∀ s : State,
    decode s.cfg (.l3class 1#2) = .ok .net4 ∧
    (s.record.eth.pay2Len < 20 → exec .net4 s = .next (enterUnderflow .net4 s)) ∧
    (20 ≤ s.record.eth.pay2Len → Pay2Inside s →
      exec .net4 s = .next ((s.setNet
        { srcAddr := BitVec.ofNat 128 (field s (s.record.eth.pay2Off + 12) 4)
          dstAddr := BitVec.ofNat 128 (field s (s.record.eth.pay2Off + 16) 4)
          l4Class := l4d s.cfg (BitVec.ofNat 8 (field s (s.record.eth.pay2Off + 9) 1))
          pay3Off := s.record.eth.pay2Off + 20
          pay3Len := s.record.eth.pay2Len - 20 }).setStage .sXport))

/-- R162: NET6, with Underflow(NET6) exactly below 40 bytes. -/
def Obligations.Net6Operation : Prop :=
  ∀ s : State,
    decode s.cfg (.l3class 2#2) = .ok .net6 ∧
    (s.record.eth.pay2Len < 40 → exec .net6 s = .next (enterUnderflow .net6 s)) ∧
    (40 ≤ s.record.eth.pay2Len → Pay2Inside s →
      exec .net6 s = .next ((s.setNet
        { srcAddr := BitVec.ofNat 128 (field s (s.record.eth.pay2Off + 8) 16)
          dstAddr := BitVec.ofNat 128 (field s (s.record.eth.pay2Off + 24) 16)
          l4Class := l4d s.cfg (BitVec.ofNat 8 (field s (s.record.eth.pay2Off + 6) 1))
          pay3Off := s.record.eth.pay2Off + 40
          pay3Len := s.record.eth.pay2Len - 40 }).setStage .sXport))

/-- R163: NETARP, with Underflow(NETARP) exactly below 20 bytes, the IPv4 offsets, and the class ARP
whatever the bytes hold. -/
def Obligations.NetarpOperation : Prop :=
  ∀ s : State,
    decode s.cfg (.l3class 3#2) = .ok .netarp ∧
    (s.record.eth.pay2Len < 20 → exec .netarp s = .next (enterUnderflow .netarp s)) ∧
    (20 ≤ s.record.eth.pay2Len → Pay2Inside s →
      exec .netarp s = .next ((s.setNet
        { srcAddr := BitVec.ofNat 128 (field s (s.record.eth.pay2Off + 12) 4)
          dstAddr := BitVec.ofNat 128 (field s (s.record.eth.pay2Off + 16) 4)
          l4Class := .arp
          pay3Off := s.record.eth.pay2Off + 20
          pay3Len := s.record.eth.pay2Len - 20 }).setStage .sArpd))

/-- R164: NETUNK ends the decode with L3_UNKNOWN, whatever the payload; VALID has V_L2 alone, and
registers 8 to 34 are as they were. -/
def Obligations.NetunkOperation : Prop :=
  ∀ s : State,
    decode s.cfg (.l3class 0#2) = .ok .netunk ∧
    ∃ t, exec .netunk s = .next t ∧ FinishEntry .l3Unknown s t ∧ t.record = s.record ∧ t.valid = 1

/-- R190: ARPD over the layer-2 payload, with Underflow(ARPD) exactly below 24 bytes. -/
def Obligations.ArpdOperation : Prop :=
  ∀ s : State,
    decode s.cfg (.stage .sArpd) = .ok .arpd ∧
    (s.record.eth.pay2Len < 24 → exec .arpd s = .next (enterUnderflow .arpd s)) ∧
    (24 ≤ s.record.eth.pay2Len → Pay2Inside s →
      exec .arpd s = .next ((s.setArp
        { opcode := BitVec.ofNat 16 (field s (s.record.eth.pay2Off + 6) 2)
          smac := BitVec.ofNat 48 (field s (s.record.eth.pay2Off + 8) 6)
          tmac := BitVec.ofNat 48 (field s (s.record.eth.pay2Off + 18) 6) }).setStage .sXport))

/-- R201: TCPD, with Underflow(TCPD) exactly below 20 bytes. -/
def Obligations.TcpdOperation : Prop :=
  ∀ s : State,
    decode s.cfg (.l4class 1#3) = .ok .tcpd ∧
    (s.record.net.pay3Len < 20 → exec .tcpd s = .next (enterUnderflow .tcpd s)) ∧
    (20 ≤ s.record.net.pay3Len → Pay3Inside s →
      exec .tcpd s = .next (finish .ok (s.setTcp
        { sport := BitVec.ofNat 16 (field s s.record.net.pay3Off 2)
          dport := BitVec.ofNat 16 (field s (s.record.net.pay3Off + 2) 2)
          seq := BitVec.ofNat 32 (field s (s.record.net.pay3Off + 4) 4)
          ack := BitVec.ofNat 32 (field s (s.record.net.pay3Off + 8) 4)
          flags := BitVec.ofNat 8 (field s (s.record.net.pay3Off + 13) 1)
          window := BitVec.ofNat 16 (field s (s.record.net.pay3Off + 14) 2) }))) ∧
    (∀ t, exec .tcpd s = .next t → t.status = .ok → s.record.net.l4Class = .tcp →
      s.record.eth.l3Class ≠ .arp → t.valid = 11)

/-- R202: UDPD, with Underflow(UDPD) exactly below 8 bytes. -/
def Obligations.UdpdOperation : Prop :=
  ∀ s : State,
    decode s.cfg (.l4class 2#3) = .ok .udpd ∧
    (s.record.net.pay3Len < 8 → exec .udpd s = .next (enterUnderflow .udpd s)) ∧
    (8 ≤ s.record.net.pay3Len → Pay3Inside s →
      exec .udpd s = .next (finish .ok (s.setUdp
        { sport := BitVec.ofNat 16 (field s s.record.net.pay3Off 2)
          dport := BitVec.ofNat 16 (field s (s.record.net.pay3Off + 2) 2)
          len := BitVec.ofNat 16 (field s (s.record.net.pay3Off + 4) 2)
          csum := BitVec.ofNat 16 (field s (s.record.net.pay3Off + 6) 2) }))) ∧
    (∀ t, exec .udpd s = .next t → t.status = .ok → s.record.net.l4Class = .udp →
      s.record.eth.l3Class ≠ .arp → t.valid = 11)

/-- R220: ICMPD, with Underflow(ICMPD) exactly below ICMP_MIN_LEN, for every value R8 admits. -/
def Obligations.IcmpdOperation : Prop :=
  ∀ s : State, s.cfg.ok →
    decode s.cfg (.l4class 3#3) = .ok .icmpd ∧
    (s.record.net.pay3Len < s.cfg.icmpMinLen → exec .icmpd s = .next (enterUnderflow .icmpd s)) ∧
    (s.cfg.icmpMinLen ≤ s.record.net.pay3Len → Pay3Inside s →
      exec .icmpd s = .next (finish .ok (s.setIcmp
        { type := BitVec.ofNat 8 (field s s.record.net.pay3Off 1)
          code := BitVec.ofNat 8 (field s (s.record.net.pay3Off + 1) 1) }))) ∧
    (∀ t, exec .icmpd s = .next t → t.status = .ok → s.record.net.l4Class = .icmp →
      s.record.eth.l3Class ≠ .arp → t.valid = 11)

/-- R221: ICMP6D, with Underflow(ICMP6D) exactly below ICMP6_MIN_LEN, for every value R8 admits. -/
def Obligations.Icmp6dOperation : Prop :=
  ∀ s : State, s.cfg.ok →
    decode s.cfg (.l4class 4#3) = .ok .icmp6d ∧
    (s.record.net.pay3Len < s.cfg.icmp6MinLen → exec .icmp6d s = .next (enterUnderflow .icmp6d s)) ∧
    (s.cfg.icmp6MinLen ≤ s.record.net.pay3Len → Pay3Inside s →
      exec .icmp6d s = .next (finish .ok (s.setIcmp
        { type := BitVec.ofNat 8 (field s s.record.net.pay3Off 1)
          code := BitVec.ofNat 8 (field s (s.record.net.pay3Off + 1) 1) }))) ∧
    (∀ t, exec .icmp6d s = .next t → t.status = .ok → s.record.net.l4Class = .icmpv6 →
      s.record.eth.l3Class ≠ .arp → t.valid = 11)

/-- R234: XNONE ends the decode with OK, whatever PAY3_LEN is; registers 8 to 34 are as they were, and
VALID is 0b0011 for the class UNKNOWN and 0b0111 for the class ARP, which is the class exactly on the
ARP path (R186). -/
def Obligations.XnoneOperation : Prop :=
  ∀ s : State,
    decode s.cfg (.l4class 0#3) = .ok .xnone ∧ decode s.cfg (.l4class 5#3) = .ok .xnone ∧
    ∃ t, exec .xnone s = .next t ∧ FinishEntry .ok s t ∧ t.record = s.record ∧
      (s.record.net.l4Class = .unknown → s.record.eth.l3Class ≠ .arp → t.valid = 3) ∧
      (s.record.net.l4Class = .arp → s.record.eth.l3Class = .arp → t.valid = 7)

/-- R235: finish(code), for OK and L3_UNKNOWN. -/
def Obligations.FinishEndsDecode : Prop :=
  ∀ (s : State) (code : Status), code = .ok ∨ code = .l3Unknown →
    FinishEntry code s (finish code s) ∧ (finish code s).record = s.record

/-- R283: Underflow entry, with VALID reading 0 and FRAME_LEN kept. -/
def Obligations.UnderflowEntryEffect : Prop :=
  ∀ (s : State) (e : ErrStage),
    UnderflowEntry e s (enterUnderflow e s) ∧ (enterUnderflow e s).valid = 0

/-! ## Frames of the parser's operations -/

/-- The frame of ETH: registers 15 to 34 and everything outside the record are unchanged, unless it
underflows. -/
def Obligations.EthFrame : Prop :=
  ∀ s t : State, exec .eth s = .next t →
    SameBytes s t ∧
    (UnderflowEntry .eth s t ∨
      (SameOutside s t ∧ SameRun s t ∧ t.stage = .sNet ∧ t.record.net = s.record.net ∧
        t.record.arp = s.record.arp ∧ t.record.tcp = s.record.tcp ∧ t.record.udp = s.record.udp ∧
        t.record.icmp = s.record.icmp))

/-- The frame of NET4, NET6 and NETARP: registers 8 to 14 and 20 to 34 and everything outside the
record are unchanged, unless the operation underflows. -/
def Obligations.NetworkFrame : Prop :=
  ∀ (s t : State) (i : Instr) (e : ErrStage) (next : Stage),
    (i, e, next) ∈ [(Instr.net4, ErrStage.net4, Stage.sXport), (.net6, .net6, .sXport),
      (.netarp, .netarp, .sArpd)] →
    exec i s = .next t →
    SameBytes s t ∧
    (UnderflowEntry e s t ∨
      (SameOutside s t ∧ SameRun s t ∧ t.stage = next ∧ t.record.eth = s.record.eth ∧
        t.record.arp = s.record.arp ∧ t.record.tcp = s.record.tcp ∧ t.record.udp = s.record.udp ∧
        t.record.icmp = s.record.icmp))

/-- The frame of ARPD: registers 8 to 19 and 23 to 34 and everything outside the record are
unchanged, unless it underflows. -/
def Obligations.ArpdFrame : Prop :=
  ∀ s t : State, exec .arpd s = .next t →
    SameBytes s t ∧
    (UnderflowEntry .arpd s t ∨
      (SameOutside s t ∧ SameRun s t ∧ t.stage = .sXport ∧ t.record.eth = s.record.eth ∧
        t.record.net = s.record.net ∧ t.record.tcp = s.record.tcp ∧ t.record.udp = s.record.udp ∧
        t.record.icmp = s.record.icmp))

/-- The frame of TCPD, UDPD, ICMPD and ICMP6D: unless the operation underflows the decode finishes
with OK and every record register but the operation's own is unchanged (R205). -/
def Obligations.TransportFrame : Prop :=
  ∀ s t : State,
    (exec .tcpd s = .next t → SameBytes s t ∧ (UnderflowEntry .tcpd s t ∨
      (FinishEntry .ok s t ∧ { t.record with tcp := s.record.tcp } = s.record))) ∧
    (exec .udpd s = .next t → SameBytes s t ∧ (UnderflowEntry .udpd s t ∨
      (FinishEntry .ok s t ∧ { t.record with udp := s.record.udp } = s.record))) ∧
    (exec .icmpd s = .next t → SameBytes s t ∧ (UnderflowEntry .icmpd s t ∨
      (FinishEntry .ok s t ∧ { t.record with icmp := s.record.icmp } = s.record))) ∧
    (exec .icmp6d s = .next t → SameBytes s t ∧ (UnderflowEntry .icmp6d s t ∨
      (FinishEntry .ok s t ∧ { t.record with icmp := s.record.icmp } = s.record)))

/-- The frame of NETUNK and XNONE: no record register and no byte changes. -/
def Obligations.EndingFrame : Prop :=
  ∀ (s t : State) (i : Instr), i ∈ [Instr.netunk, .xnone] → exec i s = .next t →
    SameOutside s t ∧ SameBytes s t ∧ t.record = s.record ∧ t.errStage = s.errStage

/-! ## The host port -/

/-- R231, R240: START where it is accepted, and where it is ignored. -/
def Obligations.StartOperation : Prop :=
  ∀ s : State,
    (∀ v, v % 2 = 1 → decode s.cfg (.port (.writeReg 0 v)) = .ok .start) ∧
    (s.runState ≠ .busy → ∃ t, exec .start s = .next t ∧
      t.frameLen = s.flen ∧ t.status = .none ∧ t.errStage = .none ∧ t.record = Record.zero ∧
      t.runState = .busy ∧ t.stage = .sEth ∧ t.valid = 0) ∧
    (s.runState = .busy → exec .start s = .next s)

/-- R239: a write to CTRL with bit 0 = 0 is CNOP, and CNOP has no effect in any state. -/
def Obligations.CnopHasNoEffect : Prop :=
  ∀ (s : State) (v : Nat), v % 2 = 0 →
    decode s.cfg (.port (.writeReg 0 v)) = .ok .cnop ∧ exec .cnop s = .next s

/-- R236: WFB puts the byte into FB and does nothing else, is ignored while BUSY, and is ignored at the
one index that can be expressed and is not in FB. -/
def Obligations.WfbOperation : Prop :=
  ∀ (s : State) (i : Nat) (b : Byte), (Instr.wfb i b).wf s.cfg = true →
    decode s.cfg (.port (.writeFrame i b)) = .ok (.wfb i b) ∧
    (s.runState ≠ .busy → i < s.cfg.frameMax →
      ∃ t, exec (.wfb i b) s = .next t ∧ fbByte t i = b ∧ (∀ j, j ≠ i → fbByte t j = fbByte s j) ∧
        t = { s with fb := t.fb }) ∧
    (s.runState ≠ .busy → i = s.cfg.frameMax → exec (.wfb i b) s = .next s) ∧
    (s.runState = .busy → exec (.wfb i b) s = .next s)

/-- R237: WFLEN writes FLEN and nothing else, and is ignored while BUSY. -/
def Obligations.WflenOperation : Prop :=
  ∀ (s : State) (n : Nat), (Instr.wflen n).wf s.cfg = true →
    decode s.cfg (.port (.writeReg 4 n)) = .ok (.wflen n) ∧
    (s.runState ≠ .busy → exec (.wflen n) s = .next { s with flen := n }) ∧
    (s.runState = .busy → exec (.wflen n) s = .next s)

/-- R238: RREG. Unassigned numbers and CTRL read 0, STATE and FLEN always read what they hold, and
every other register reads what it holds unless BUSY; while BUSY it reads a value of its width that
is not specified. The free value and the count of draws (log 3) and the read port that takes the value
(log 8) are the model's. -/
def Obligations.RregOperation : Prop :=
  ∀ (s : State) (k : Nat),
    decode s.cfg (.port (.readReg k)) = .ok (.rreg k) ∧
    (k = 0 ∨ k = 7 ∨ 34 < k → exec (.rreg k) s = .next (s.setReadData 0)) ∧
    exec (.rreg 1) s = .next (s.setReadData (runCode s.runState)) ∧
    exec (.rreg 4) s = .next (s.setReadData s.flen) ∧
    ∀ r, regOfNumber k = some r →
      (s.runState ≠ .busy → exec (.rreg k) s = .next (s.setReadData (regValue s r))) ∧
      (s.runState = .busy → r ≠ .ctrl → r ≠ .state → r ≠ .flen →
        ∃ v, v < 2 ^ regWidth s.cfg r ∧ exec (.rreg k) s = .next ((s.setReadData v).drawn))

/-- The frame of the host's operations: START leaves FB, FLEN and the read port alone; WFB changes no
byte but the one at its index, and nothing else; WFLEN changes FLEN alone; RREG changes nothing of
the block (R76); CNOP nothing at all. -/
def Obligations.HostPortFrame : Prop :=
  ∀ (s t : State) (a : Nat) (b : Byte) (n k : Nat),
    (exec .start s = .next t →
      t.cfg = s.cfg ∧ t.fb = s.fb ∧ SameBytes s t ∧ t.flen = s.flen ∧ t.host = s.host ∧
      t.readData = s.readData ∧ t.draws = s.draws ∧ t.resets = s.resets) ∧
    (exec .cnop s = .next t → t = s) ∧
    (exec (.wfb a b) s = .next t →
      SameParser s t ∧ t.flen = s.flen ∧ t.readData = s.readData ∧ t.draws = s.draws ∧
      (∀ j, j ≠ a → fbByte t j = fbByte s j) ∧
      (s.runState = .busy ∨ s.cfg.frameMax ≤ a → SameBytes s t)) ∧
    (exec (.wflen n) s = .next t →
      SameParser s t ∧ t.fb = s.fb ∧ SameBytes s t ∧ t.readData = s.readData ∧ t.draws = s.draws) ∧
    (exec (.rreg k) s = .next t →
      SameParser s t ∧ t.fb = s.fb ∧ SameBytes s t ∧ t.flen = s.flen)

/-- R85, R240: while BUSY a START, a CNOP, a WFB and a WFLEN of the host change nothing: the step only
takes the move off. -/
def Obligations.BusyLocksHostWrites : Prop :=
  ∀ (s : State) (rest : List HostMove) (i v k : Nat) (b : Byte), s.runState = .busy →
    (s.host = .port (.writeFrame i b) :: rest ∨ s.host = .port (.writeReg k v) :: rest) →
    step s = .next (takeMove s)

/-- R49, R78: a write to a register number other than CTRL and FLEN is ignored in every state. -/
def Obligations.OtherRegisterWritesIgnored : Prop :=
  ∀ (s : State) (rest : List HostMove) (k v : Nat), k ≠ 0 → k ≠ 4 →
    s.host = .port (.writeReg k v) :: rest → step s = .next (takeMove s)

/-- R23, R112: of a value written to CTRL only bit 0 counts. -/
def Obligations.CtrlWriteUsesBitZero : Prop :=
  ∀ (s : State) (rest : List HostMove) (v : Nat), s.host = .port (.writeReg 0 v) :: rest →
    (v % 2 = 1 → step s = exec .start (takeMove s)) ∧ (v % 2 = 0 → step s = .next (takeMove s))

/-- R49: only WFB writes FB, only WFLEN writes FLEN, only RREG hands a value to the host, and no
operation writes the configuration or the host's moves. -/
def Obligations.WhoWritesWhat : Prop :=
  ∀ (s t : State) (i : Instr), exec i s = .next t →
    (∀ a, fbByte t a ≠ fbByte s a → ∃ b, i = .wfb a b) ∧
    (t.flen ≠ s.flen → ∃ n, i = .wflen n) ∧
    (t.readData ≠ s.readData ∨ t.draws ≠ s.draws → ∃ k, i = .rreg k) ∧
    (t.frameLen ≠ s.frameLen → i = .start) ∧
    t.cfg = s.cfg ∧ t.host = s.host ∧ t.resets = s.resets

/-! ## Registers and flags -/

/-- R28: each bit of VALID; and outside BUSY, in a state that meets the invariant, the registers no set
bit covers are 0. -/
def Obligations.ValidBits : Prop :=
  ∀ s : State, s.valid < 16 ∧
    (StateInv s → s.runState ≠ .busy →
      (s.valid.testBit 0 = false → s.record.eth = EthRegs.zero) ∧
      (s.valid.testBit 1 = false → s.record.net = NetRegs.zero) ∧
      (s.valid.testBit 2 = false → s.record.arp = ArpRegs.zero) ∧
      (s.valid.testBit 3 = false ∨ s.record.net.l4Class ≠ .tcp → s.record.tcp = TcpRegs.zero) ∧
      (s.valid.testBit 3 = false ∨ s.record.net.l4Class ≠ .udp → s.record.udp = UdpRegs.zero) ∧
      (s.valid.testBit 3 = false ∨ s.record.net.l4Class ∉ [L4Class.icmp, .icmpv6] →
        s.record.icmp = IcmpRegs.zero)) ∧
    (s.valid.testBit 0 = true ↔ s.status = .ok ∨ s.status = .l3Unknown) ∧
    (s.valid.testBit 1 = true ↔ s.status = .ok) ∧
    (s.valid.testBit 2 = true ↔ s.status = .ok ∧ s.record.eth.l3Class = .arp) ∧
    (s.valid.testBit 3 = true ↔ s.status = .ok ∧
      s.record.net.l4Class ∈ [L4Class.tcp, .udp, .icmp, .icmpv6])

/-- R20: every numbered register holds a value of its width, in every state that meets the
invariant; two numbers never name one register. -/
def Obligations.RegistersFitTheirWidths : Prop :=
  (∀ s : State, StateInv s → ∀ r, regValue s r < 2 ^ regWidth s.cfg r) ∧
  ∀ (k k' : Nat) (r : Reg), regOfNumber k = some r → regOfNumber k' = some r → k = k'

/-- R37, R80: in a record with STATUS = OK a 4-byte address leaves bits 127 to 32 zero, and the
layer-3 payload is a suffix of the frame that begins at 38 or 58. -/
def Obligations.RecordShapeAfterOk : Prop :=
  ∀ s t : State, StateInv s → step s = .next t → t.status = .ok →
    (t.record.eth.l3Class ≠ .ipv6 →
      t.record.net.srcAddr.toNat < 2 ^ 32 ∧ t.record.net.dstAddr.toNat < 2 ^ 32 ∧
      t.record.net.pay3Off = 38) ∧
    (t.record.eth.l3Class = .ipv6 → t.record.net.pay3Off = 58) ∧
    t.record.net.pay3Off + t.record.net.pay3Len = t.frameLen

/-! ## The frame buffer -/

/-- R12, R72: a MemRead inside the frame is the big-endian value of its bytes: it has `8 * n` bits,
and the byte at the lowest index is the most significant. One beyond FRAME_LEN has no value and is an
internal fault (log 6). -/
def Obligations.MemReadIsBigEndian : Prop :=
  ∀ (s : State) (a n : Nat),
    (a + n ≤ s.frameLen → s.frameLen ≤ s.cfg.frameMax →
      ∃ v, memRead s a n = .ok v ∧ v < 2 ^ (8 * n) ∧
        ∀ k, k < n → v / 2 ^ (8 * (n - 1 - k)) % 256 = (fbByte s (a + k)).toNat) ∧
    (s.frameLen < a + n → memRead s a n = .error (.readBeyondFrame a n))

/-- The canonical form of FB is kept by every operation on it, and equal contents are equal data: two
canonical buffers in which the same bytes were written are the same list. -/
def Obligations.BufferIsCanonical : Prop :=
  (∀ (m : Memory) (i : Nat) (b : Byte), Memory.wf m = true → Memory.wf (Memory.set m i b) = true) ∧
  (∀ m m' : Memory, Memory.wf m = true → Memory.wf m' = true →
    (∀ i, Memory.get? m i = Memory.get? m' i) → m = m')

/-! ## Whole decodes -/

/-- R232, R246: stepping through the stages computes the decode function: from the state just after
START at most four steps lead to exactly the state R246 gives. One stage per step with no host move
left is the model's choice (logs 4, 5). -/
def Obligations.StagesComputeWholeDecode : Prop :=
  ∀ s : State, DecodeBegins s →
    ∃ k, 1 ≤ k ∧ k ≤ 4 ∧ runSteps k s = .next (decodedState s)

/-- R242: with the host quiet every decode in progress ends, within four steps, whatever stage it is
in. -/
def Obligations.EveryDecodeEnds : Prop :=
  ∀ s : State, StateInv s → s.runState = .busy → s.host = [] →
    ∃ k t, k ≤ 4 ∧ runSteps k s = .next t ∧ t.runState = .done ∧
      t.frameLen = s.frameLen

/-- R46, R244: the result of a decode is a function of FLEN, of the bytes below FLEN and of the
configuration, and of nothing else: not of earlier results, of FB beyond FLEN, of earlier resets. -/
def Obligations.ResultDependsOnFrameOnly : Prop :=
  ∀ s s' : State, StartPending s → StartPending s' → s'.cfg = s.cfg → s'.flen = s.flen →
    (∀ i, i < s.flen → fbByte s' i = fbByte s i) →
    ∃ t t', runSteps 5 s = .next t ∧ runSteps 5 s' = .next t' ∧
      t.runState = .done ∧ t'.runState = .done ∧ SameResult t t'

/-- R76: decoding again without touching FB or FLEN changes no register at all. -/
def Obligations.RepeatedDecodeIsIdentical : Prop :=
  ∀ s t : State, StartPending s → runSteps 5 s = .next t →
    runSteps 5 (t.setHost s.host) = .next t

/-- R281, R287: which underflow a frame reports, by its length, its ethertype and its protocol byte,
and when it reports none: the first operation on the frame's path that is short of bytes. -/
def Obligations.UnderflowByFrameLength : Prop :=
  ∀ s : State, DecodeBegins s →
    ∃ t, runSteps 4 s = .next t ∧ t.runState = .done ∧
      (t.errStage = .eth ↔ s.frameLen < 18) ∧
      (t.errStage = .net4 ↔ 18 ≤ s.frameLen ∧ s.frameLen < 38 ∧ field s 16 2 = 0x0800) ∧
      (t.errStage = .net6 ↔ 18 ≤ s.frameLen ∧ s.frameLen < 58 ∧ field s 16 2 = 0x86DD) ∧
      (t.errStage = .netarp ↔ 18 ≤ s.frameLen ∧ s.frameLen < 38 ∧ field s 16 2 = 0x0806) ∧
      (t.errStage = .arpd ↔ 38 ≤ s.frameLen ∧ s.frameLen < 42 ∧ field s 16 2 = 0x0806) ∧
      (t.errStage = .tcpd ↔
        (38 ≤ s.frameLen ∧ s.frameLen < 58 ∧ field s 16 2 = 0x0800 ∧ field s 27 1 = 6) ∨
        (58 ≤ s.frameLen ∧ s.frameLen < 78 ∧ field s 16 2 = 0x86DD ∧ field s 24 1 = 6)) ∧
      (t.errStage = .udpd ↔
        (38 ≤ s.frameLen ∧ s.frameLen < 46 ∧ field s 16 2 = 0x0800 ∧ field s 27 1 = 17) ∨
        (58 ≤ s.frameLen ∧ s.frameLen < 66 ∧ field s 16 2 = 0x86DD ∧ field s 24 1 = 17)) ∧
      (t.errStage = .icmpd ↔
        (38 ≤ s.frameLen ∧ s.frameLen < 38 + s.cfg.icmpMinLen ∧ field s 16 2 = 0x0800 ∧
          field s 27 1 = 1) ∨
        (58 ≤ s.frameLen ∧ s.frameLen < 58 + s.cfg.icmpMinLen ∧ field s 16 2 = 0x86DD ∧
          field s 24 1 = 1)) ∧
      (t.errStage = .icmp6d ↔
        (38 ≤ s.frameLen ∧ s.frameLen < 38 + s.cfg.icmp6MinLen ∧ field s 16 2 = 0x0800 ∧
          field s 27 1 = 58) ∨
        (58 ≤ s.frameLen ∧ s.frameLen < 58 + s.cfg.icmp6MinLen ∧ field s 16 2 = 0x86DD ∧
          field s 24 1 = 58))

/-! ## The host-side companion -/

/-- R261: the MacAddress text has 17 characters, and distinct addresses have distinct texts. -/
def Obligations.MacTextInjective : Prop :=
  (∀ m : Mac, (macText m).length = 17) ∧ ∀ m m' : Mac, macText m = macText m' → m = m'

/-- R263, and the two rows of V9 that print alike: the IPv6 text is not injective. The addresses that
begin with 0x0123 and with 0x1203, each followed by fourteen zero bytes, both print
`123:0:0:0:0:0:0:0:`, in either letter case. -/
def Obligations.Ipv6TextAmbiguous : Prop :=
  (0x01230000000000000000000000000000#128 : Addr) ≠ 0x12030000000000000000000000000000#128 ∧
  ∀ upper : Bool,
    ipv6Text upper 0x01230000000000000000000000000000#128 =
      ['1', '2', '3', ':', '0', ':', '0', ':', '0', ':', '0', ':', '0', ':', '0', ':', '0', ':'] ∧
    ipv6Text upper 0x12030000000000000000000000000000#128 =
      ['1', '2', '3', ':', '0', ':', '0', ':', '0', ':', '0', ':', '0', ':', '0', ':', '0', ':']
end

