-- ==== Sys2Proof/Laws/Memory.lean ====
section
/-! SUPPORT. The frame buffer as data: reading after writing, and that a write keeps the canonical
form and the bounds of FB. -/

namespace Sys2Proof.Machine

theorem Memory.get?_set_same (m : Memory) (i : Nat) (b : Byte) :
    Memory.get? (Memory.set m i b) i = some b := by
  induction m with
  | nil => simp [Memory.set, Memory.get?]
  | cons c m ih =>
    obtain ⟨a, x⟩ := c
    simp only [Memory.set]
    split
    · simp [Memory.get?]
    · split
      · simp [Memory.get?]
      · rename_i h; simp [Memory.get?, h, ih]

theorem Memory.get?_set_other (m : Memory) {i j : Nat} (b : Byte) (h : j ≠ i) :
    Memory.get? (Memory.set m i b) j = Memory.get? m j := by
  induction m with
  | nil => simp [Memory.set, Memory.get?, h]
  | cons c m ih =>
    obtain ⟨a, x⟩ := c
    simp only [Memory.set]
    split
    · simp [Memory.get?, h]
    · split
      · rename_i e; subst e; simp [Memory.get?, h]
      · simp only [Memory.get?, ih]

/-- Every entry of a memory in canonical form that begins at `a` lies above `a`. -/
theorem Memory.wf_cons_iff (a : Nat) (x : Byte) (m : Memory) :
    Memory.wf ((a, x) :: m) = true ↔ (∀ c ∈ m, a < c.1) ∧ Memory.wf m = true := by
  induction m generalizing a x with
  | nil => simp [Memory.wf]
  | cons c m ih =>
    obtain ⟨b, y⟩ := c
    have hb := ih b y
    simp only [Memory.wf, Bool.and_eq_true, decide_eq_true_eq, List.forall_mem_cons, hb]
    constructor
    · rintro ⟨hab, hm, hw⟩
      exact ⟨⟨hab, fun c hc => lt_trans hab (hm c hc)⟩, hm, hw⟩
    · rintro ⟨⟨hab, -⟩, hm, hw⟩
      exact ⟨hab, hm, hw⟩

theorem Memory.mem_set {m : Memory} {i : Nat} {b : Byte} {c : Host.Cell}
    (h : c ∈ Memory.set m i b) : c = (i, b) ∨ c ∈ m := by
  induction m with
  | nil => simpa [Memory.set] using h
  | cons d m ih =>
    obtain ⟨a, x⟩ := d
    simp only [Memory.set] at h
    split at h
    · simpa using h
    · split at h
      · rcases List.mem_cons.1 h with h | h
        · exact .inl h
        · exact .inr (List.mem_cons_of_mem _ h)
      · rcases List.mem_cons.1 h with h | h
        · exact .inr (h ▸ List.mem_cons_self)
        · exact (ih h).imp id (List.mem_cons_of_mem _)

/-- Writing a byte keeps the canonical form. -/
theorem Memory.set_wf {m : Memory} (i : Nat) (b : Byte) (h : Memory.wf m = true) :
    Memory.wf (Memory.set m i b) = true := by
  induction m with
  | nil => rfl
  | cons d m ih =>
    obtain ⟨a, x⟩ := d
    obtain ⟨hlt, hw⟩ := (Memory.wf_cons_iff a x m).1 h
    simp only [Memory.set]
    split
    · rename_i hi
      refine (Memory.wf_cons_iff _ _ _).2 ⟨fun c hc => ?_, h⟩
      rcases List.mem_cons.1 hc with rfl | hc
      · exact hi
      · exact lt_trans hi (hlt c hc)
    · split
      · rename_i hi; subst hi
        exact (Memory.wf_cons_iff _ _ _).2 ⟨hlt, hw⟩
      · refine (Memory.wf_cons_iff _ _ _).2 ⟨fun c hc => ?_, ih hw⟩
        rcases Memory.mem_set hc with rfl | hc
        · show a < i; omega
        · exact hlt c hc

/-- Writing a byte inside FB keeps every byte inside FB. -/
theorem Memory.set_below {m : Memory} {n i : Nat} (b : Byte) (hi : i < n)
    (h : Memory.below n m = true) : Memory.below n (Memory.set m i b) = true := by
  simp only [Memory.below, List.all_eq_true, decide_eq_true_eq] at h ⊢
  intro c hc
  rcases Memory.mem_set hc with rfl | hc
  · exact hi
  · exact h c hc

/-- Memory operations keep the canonical form: MemWrite is the only one. -/
theorem memWrite_wf {s : State} (i : Nat) (b : Byte) (h : Memory.wf s.fb = true) :
    Memory.wf (memWrite s i b).fb = true := by
  unfold memWrite
  split
  · exact Memory.set_wf i b h
  · exact h

/-- The frame buffer right after reset is in canonical form. -/
theorem reset_fb_wf : Memory.wf State.reset.fb = true := rfl

end Sys2Proof.Machine
end

