-- ==== Sys2Proof/Laws/State.lean ====
section
/-! SUPPORT. What each update of the state leaves in each field, so that no proof unfolds a record
update. -/

namespace Sys2Proof.Machine

/-! `State.setEth` -/

@[simp] theorem State.setEth_cfg (s : State) (r : EthRegs) :
    (s.setEth r).cfg = s.cfg := rfl
@[simp] theorem State.setEth_params (s : State) (r : EthRegs) :
    (s.setEth r).params = s.params := rfl
@[simp] theorem State.setEth_fb (s : State) (r : EthRegs) :
    (s.setEth r).fb = s.fb := rfl
@[simp] theorem State.setEth_flen (s : State) (r : EthRegs) :
    (s.setEth r).flen = s.flen := rfl
@[simp] theorem State.setEth_runState (s : State) (r : EthRegs) :
    (s.setEth r).runState = s.runState := rfl
@[simp] theorem State.setEth_status (s : State) (r : EthRegs) :
    (s.setEth r).status = s.status := rfl
@[simp] theorem State.setEth_errStage (s : State) (r : EthRegs) :
    (s.setEth r).errStage = s.errStage := rfl
@[simp] theorem State.setEth_frameLen (s : State) (r : EthRegs) :
    (s.setEth r).frameLen = s.frameLen := rfl
@[simp] theorem State.setEth_stage (s : State) (r : EthRegs) :
    (s.setEth r).stage = s.stage := rfl
@[simp] theorem State.setEth_host (s : State) (r : EthRegs) :
    (s.setEth r).host = s.host := rfl
@[simp] theorem State.setEth_readData (s : State) (r : EthRegs) :
    (s.setEth r).readData = s.readData := rfl
@[simp] theorem State.setEth_draws (s : State) (r : EthRegs) :
    (s.setEth r).draws = s.draws := rfl
@[simp] theorem State.setEth_resets (s : State) (r : EthRegs) :
    (s.setEth r).resets = s.resets := rfl
@[simp] theorem State.setEth_eth (s : State) (r : EthRegs) :
    (s.setEth r).record.eth = r := rfl
@[simp] theorem State.setEth_net (s : State) (r : EthRegs) :
    (s.setEth r).record.net = s.record.net := rfl
@[simp] theorem State.setEth_arp (s : State) (r : EthRegs) :
    (s.setEth r).record.arp = s.record.arp := rfl
@[simp] theorem State.setEth_tcp (s : State) (r : EthRegs) :
    (s.setEth r).record.tcp = s.record.tcp := rfl
@[simp] theorem State.setEth_udp (s : State) (r : EthRegs) :
    (s.setEth r).record.udp = s.record.udp := rfl
@[simp] theorem State.setEth_icmp (s : State) (r : EthRegs) :
    (s.setEth r).record.icmp = s.record.icmp := rfl

/-! `State.setNet` -/

@[simp] theorem State.setNet_cfg (s : State) (r : NetRegs) :
    (s.setNet r).cfg = s.cfg := rfl
@[simp] theorem State.setNet_params (s : State) (r : NetRegs) :
    (s.setNet r).params = s.params := rfl
@[simp] theorem State.setNet_fb (s : State) (r : NetRegs) :
    (s.setNet r).fb = s.fb := rfl
@[simp] theorem State.setNet_flen (s : State) (r : NetRegs) :
    (s.setNet r).flen = s.flen := rfl
@[simp] theorem State.setNet_runState (s : State) (r : NetRegs) :
    (s.setNet r).runState = s.runState := rfl
@[simp] theorem State.setNet_status (s : State) (r : NetRegs) :
    (s.setNet r).status = s.status := rfl
@[simp] theorem State.setNet_errStage (s : State) (r : NetRegs) :
    (s.setNet r).errStage = s.errStage := rfl
@[simp] theorem State.setNet_frameLen (s : State) (r : NetRegs) :
    (s.setNet r).frameLen = s.frameLen := rfl
@[simp] theorem State.setNet_stage (s : State) (r : NetRegs) :
    (s.setNet r).stage = s.stage := rfl
@[simp] theorem State.setNet_host (s : State) (r : NetRegs) :
    (s.setNet r).host = s.host := rfl
@[simp] theorem State.setNet_readData (s : State) (r : NetRegs) :
    (s.setNet r).readData = s.readData := rfl
@[simp] theorem State.setNet_draws (s : State) (r : NetRegs) :
    (s.setNet r).draws = s.draws := rfl
@[simp] theorem State.setNet_resets (s : State) (r : NetRegs) :
    (s.setNet r).resets = s.resets := rfl
@[simp] theorem State.setNet_eth (s : State) (r : NetRegs) :
    (s.setNet r).record.eth = s.record.eth := rfl
@[simp] theorem State.setNet_net (s : State) (r : NetRegs) :
    (s.setNet r).record.net = r := rfl
@[simp] theorem State.setNet_arp (s : State) (r : NetRegs) :
    (s.setNet r).record.arp = s.record.arp := rfl
@[simp] theorem State.setNet_tcp (s : State) (r : NetRegs) :
    (s.setNet r).record.tcp = s.record.tcp := rfl
@[simp] theorem State.setNet_udp (s : State) (r : NetRegs) :
    (s.setNet r).record.udp = s.record.udp := rfl
@[simp] theorem State.setNet_icmp (s : State) (r : NetRegs) :
    (s.setNet r).record.icmp = s.record.icmp := rfl

/-! `State.setArp` -/

@[simp] theorem State.setArp_cfg (s : State) (r : ArpRegs) :
    (s.setArp r).cfg = s.cfg := rfl
@[simp] theorem State.setArp_params (s : State) (r : ArpRegs) :
    (s.setArp r).params = s.params := rfl
@[simp] theorem State.setArp_fb (s : State) (r : ArpRegs) :
    (s.setArp r).fb = s.fb := rfl
@[simp] theorem State.setArp_flen (s : State) (r : ArpRegs) :
    (s.setArp r).flen = s.flen := rfl
@[simp] theorem State.setArp_runState (s : State) (r : ArpRegs) :
    (s.setArp r).runState = s.runState := rfl
@[simp] theorem State.setArp_status (s : State) (r : ArpRegs) :
    (s.setArp r).status = s.status := rfl
@[simp] theorem State.setArp_errStage (s : State) (r : ArpRegs) :
    (s.setArp r).errStage = s.errStage := rfl
@[simp] theorem State.setArp_frameLen (s : State) (r : ArpRegs) :
    (s.setArp r).frameLen = s.frameLen := rfl
@[simp] theorem State.setArp_stage (s : State) (r : ArpRegs) :
    (s.setArp r).stage = s.stage := rfl
@[simp] theorem State.setArp_host (s : State) (r : ArpRegs) :
    (s.setArp r).host = s.host := rfl
@[simp] theorem State.setArp_readData (s : State) (r : ArpRegs) :
    (s.setArp r).readData = s.readData := rfl
@[simp] theorem State.setArp_draws (s : State) (r : ArpRegs) :
    (s.setArp r).draws = s.draws := rfl
@[simp] theorem State.setArp_resets (s : State) (r : ArpRegs) :
    (s.setArp r).resets = s.resets := rfl
@[simp] theorem State.setArp_eth (s : State) (r : ArpRegs) :
    (s.setArp r).record.eth = s.record.eth := rfl
@[simp] theorem State.setArp_net (s : State) (r : ArpRegs) :
    (s.setArp r).record.net = s.record.net := rfl
@[simp] theorem State.setArp_arp (s : State) (r : ArpRegs) :
    (s.setArp r).record.arp = r := rfl
@[simp] theorem State.setArp_tcp (s : State) (r : ArpRegs) :
    (s.setArp r).record.tcp = s.record.tcp := rfl
@[simp] theorem State.setArp_udp (s : State) (r : ArpRegs) :
    (s.setArp r).record.udp = s.record.udp := rfl
@[simp] theorem State.setArp_icmp (s : State) (r : ArpRegs) :
    (s.setArp r).record.icmp = s.record.icmp := rfl

/-! `State.setTcp` -/

@[simp] theorem State.setTcp_cfg (s : State) (r : TcpRegs) :
    (s.setTcp r).cfg = s.cfg := rfl
@[simp] theorem State.setTcp_params (s : State) (r : TcpRegs) :
    (s.setTcp r).params = s.params := rfl
@[simp] theorem State.setTcp_fb (s : State) (r : TcpRegs) :
    (s.setTcp r).fb = s.fb := rfl
@[simp] theorem State.setTcp_flen (s : State) (r : TcpRegs) :
    (s.setTcp r).flen = s.flen := rfl
@[simp] theorem State.setTcp_runState (s : State) (r : TcpRegs) :
    (s.setTcp r).runState = s.runState := rfl
@[simp] theorem State.setTcp_status (s : State) (r : TcpRegs) :
    (s.setTcp r).status = s.status := rfl
@[simp] theorem State.setTcp_errStage (s : State) (r : TcpRegs) :
    (s.setTcp r).errStage = s.errStage := rfl
@[simp] theorem State.setTcp_frameLen (s : State) (r : TcpRegs) :
    (s.setTcp r).frameLen = s.frameLen := rfl
@[simp] theorem State.setTcp_stage (s : State) (r : TcpRegs) :
    (s.setTcp r).stage = s.stage := rfl
@[simp] theorem State.setTcp_host (s : State) (r : TcpRegs) :
    (s.setTcp r).host = s.host := rfl
@[simp] theorem State.setTcp_readData (s : State) (r : TcpRegs) :
    (s.setTcp r).readData = s.readData := rfl
@[simp] theorem State.setTcp_draws (s : State) (r : TcpRegs) :
    (s.setTcp r).draws = s.draws := rfl
@[simp] theorem State.setTcp_resets (s : State) (r : TcpRegs) :
    (s.setTcp r).resets = s.resets := rfl
@[simp] theorem State.setTcp_eth (s : State) (r : TcpRegs) :
    (s.setTcp r).record.eth = s.record.eth := rfl
@[simp] theorem State.setTcp_net (s : State) (r : TcpRegs) :
    (s.setTcp r).record.net = s.record.net := rfl
@[simp] theorem State.setTcp_arp (s : State) (r : TcpRegs) :
    (s.setTcp r).record.arp = s.record.arp := rfl
@[simp] theorem State.setTcp_tcp (s : State) (r : TcpRegs) :
    (s.setTcp r).record.tcp = r := rfl
@[simp] theorem State.setTcp_udp (s : State) (r : TcpRegs) :
    (s.setTcp r).record.udp = s.record.udp := rfl
@[simp] theorem State.setTcp_icmp (s : State) (r : TcpRegs) :
    (s.setTcp r).record.icmp = s.record.icmp := rfl

/-! `State.setUdp` -/

@[simp] theorem State.setUdp_cfg (s : State) (r : UdpRegs) :
    (s.setUdp r).cfg = s.cfg := rfl
@[simp] theorem State.setUdp_params (s : State) (r : UdpRegs) :
    (s.setUdp r).params = s.params := rfl
@[simp] theorem State.setUdp_fb (s : State) (r : UdpRegs) :
    (s.setUdp r).fb = s.fb := rfl
@[simp] theorem State.setUdp_flen (s : State) (r : UdpRegs) :
    (s.setUdp r).flen = s.flen := rfl
@[simp] theorem State.setUdp_runState (s : State) (r : UdpRegs) :
    (s.setUdp r).runState = s.runState := rfl
@[simp] theorem State.setUdp_status (s : State) (r : UdpRegs) :
    (s.setUdp r).status = s.status := rfl
@[simp] theorem State.setUdp_errStage (s : State) (r : UdpRegs) :
    (s.setUdp r).errStage = s.errStage := rfl
@[simp] theorem State.setUdp_frameLen (s : State) (r : UdpRegs) :
    (s.setUdp r).frameLen = s.frameLen := rfl
@[simp] theorem State.setUdp_stage (s : State) (r : UdpRegs) :
    (s.setUdp r).stage = s.stage := rfl
@[simp] theorem State.setUdp_host (s : State) (r : UdpRegs) :
    (s.setUdp r).host = s.host := rfl
@[simp] theorem State.setUdp_readData (s : State) (r : UdpRegs) :
    (s.setUdp r).readData = s.readData := rfl
@[simp] theorem State.setUdp_draws (s : State) (r : UdpRegs) :
    (s.setUdp r).draws = s.draws := rfl
@[simp] theorem State.setUdp_resets (s : State) (r : UdpRegs) :
    (s.setUdp r).resets = s.resets := rfl
@[simp] theorem State.setUdp_eth (s : State) (r : UdpRegs) :
    (s.setUdp r).record.eth = s.record.eth := rfl
@[simp] theorem State.setUdp_net (s : State) (r : UdpRegs) :
    (s.setUdp r).record.net = s.record.net := rfl
@[simp] theorem State.setUdp_arp (s : State) (r : UdpRegs) :
    (s.setUdp r).record.arp = s.record.arp := rfl
@[simp] theorem State.setUdp_tcp (s : State) (r : UdpRegs) :
    (s.setUdp r).record.tcp = s.record.tcp := rfl
@[simp] theorem State.setUdp_udp (s : State) (r : UdpRegs) :
    (s.setUdp r).record.udp = r := rfl
@[simp] theorem State.setUdp_icmp (s : State) (r : UdpRegs) :
    (s.setUdp r).record.icmp = s.record.icmp := rfl

/-! `State.setIcmp` -/

@[simp] theorem State.setIcmp_cfg (s : State) (r : IcmpRegs) :
    (s.setIcmp r).cfg = s.cfg := rfl
@[simp] theorem State.setIcmp_params (s : State) (r : IcmpRegs) :
    (s.setIcmp r).params = s.params := rfl
@[simp] theorem State.setIcmp_fb (s : State) (r : IcmpRegs) :
    (s.setIcmp r).fb = s.fb := rfl
@[simp] theorem State.setIcmp_flen (s : State) (r : IcmpRegs) :
    (s.setIcmp r).flen = s.flen := rfl
@[simp] theorem State.setIcmp_runState (s : State) (r : IcmpRegs) :
    (s.setIcmp r).runState = s.runState := rfl
@[simp] theorem State.setIcmp_status (s : State) (r : IcmpRegs) :
    (s.setIcmp r).status = s.status := rfl
@[simp] theorem State.setIcmp_errStage (s : State) (r : IcmpRegs) :
    (s.setIcmp r).errStage = s.errStage := rfl
@[simp] theorem State.setIcmp_frameLen (s : State) (r : IcmpRegs) :
    (s.setIcmp r).frameLen = s.frameLen := rfl
@[simp] theorem State.setIcmp_stage (s : State) (r : IcmpRegs) :
    (s.setIcmp r).stage = s.stage := rfl
@[simp] theorem State.setIcmp_host (s : State) (r : IcmpRegs) :
    (s.setIcmp r).host = s.host := rfl
@[simp] theorem State.setIcmp_readData (s : State) (r : IcmpRegs) :
    (s.setIcmp r).readData = s.readData := rfl
@[simp] theorem State.setIcmp_draws (s : State) (r : IcmpRegs) :
    (s.setIcmp r).draws = s.draws := rfl
@[simp] theorem State.setIcmp_resets (s : State) (r : IcmpRegs) :
    (s.setIcmp r).resets = s.resets := rfl
@[simp] theorem State.setIcmp_eth (s : State) (r : IcmpRegs) :
    (s.setIcmp r).record.eth = s.record.eth := rfl
@[simp] theorem State.setIcmp_net (s : State) (r : IcmpRegs) :
    (s.setIcmp r).record.net = s.record.net := rfl
@[simp] theorem State.setIcmp_arp (s : State) (r : IcmpRegs) :
    (s.setIcmp r).record.arp = s.record.arp := rfl
@[simp] theorem State.setIcmp_tcp (s : State) (r : IcmpRegs) :
    (s.setIcmp r).record.tcp = s.record.tcp := rfl
@[simp] theorem State.setIcmp_udp (s : State) (r : IcmpRegs) :
    (s.setIcmp r).record.udp = s.record.udp := rfl
@[simp] theorem State.setIcmp_icmp (s : State) (r : IcmpRegs) :
    (s.setIcmp r).record.icmp = r := rfl

/-! `State.setL3` -/

@[simp] theorem State.setL3_cfg (s : State) (c : L3Class) :
    (s.setL3 c).cfg = s.cfg := rfl
@[simp] theorem State.setL3_params (s : State) (c : L3Class) :
    (s.setL3 c).params = s.params := rfl
@[simp] theorem State.setL3_fb (s : State) (c : L3Class) :
    (s.setL3 c).fb = s.fb := rfl
@[simp] theorem State.setL3_flen (s : State) (c : L3Class) :
    (s.setL3 c).flen = s.flen := rfl
@[simp] theorem State.setL3_runState (s : State) (c : L3Class) :
    (s.setL3 c).runState = s.runState := rfl
@[simp] theorem State.setL3_status (s : State) (c : L3Class) :
    (s.setL3 c).status = s.status := rfl
@[simp] theorem State.setL3_errStage (s : State) (c : L3Class) :
    (s.setL3 c).errStage = s.errStage := rfl
@[simp] theorem State.setL3_frameLen (s : State) (c : L3Class) :
    (s.setL3 c).frameLen = s.frameLen := rfl
@[simp] theorem State.setL3_stage (s : State) (c : L3Class) :
    (s.setL3 c).stage = s.stage := rfl
@[simp] theorem State.setL3_host (s : State) (c : L3Class) :
    (s.setL3 c).host = s.host := rfl
@[simp] theorem State.setL3_readData (s : State) (c : L3Class) :
    (s.setL3 c).readData = s.readData := rfl
@[simp] theorem State.setL3_draws (s : State) (c : L3Class) :
    (s.setL3 c).draws = s.draws := rfl
@[simp] theorem State.setL3_resets (s : State) (c : L3Class) :
    (s.setL3 c).resets = s.resets := rfl
@[simp] theorem State.setL3_eth (s : State) (c : L3Class) :
    (s.setL3 c).record.eth = { s.record.eth with l3Class := c } := rfl
@[simp] theorem State.setL3_net (s : State) (c : L3Class) :
    (s.setL3 c).record.net = s.record.net := rfl
@[simp] theorem State.setL3_arp (s : State) (c : L3Class) :
    (s.setL3 c).record.arp = s.record.arp := rfl
@[simp] theorem State.setL3_tcp (s : State) (c : L3Class) :
    (s.setL3 c).record.tcp = s.record.tcp := rfl
@[simp] theorem State.setL3_udp (s : State) (c : L3Class) :
    (s.setL3 c).record.udp = s.record.udp := rfl
@[simp] theorem State.setL3_icmp (s : State) (c : L3Class) :
    (s.setL3 c).record.icmp = s.record.icmp := rfl

/-! `State.setL4` -/

@[simp] theorem State.setL4_cfg (s : State) (c : L4Class) :
    (s.setL4 c).cfg = s.cfg := rfl
@[simp] theorem State.setL4_params (s : State) (c : L4Class) :
    (s.setL4 c).params = s.params := rfl
@[simp] theorem State.setL4_fb (s : State) (c : L4Class) :
    (s.setL4 c).fb = s.fb := rfl
@[simp] theorem State.setL4_flen (s : State) (c : L4Class) :
    (s.setL4 c).flen = s.flen := rfl
@[simp] theorem State.setL4_runState (s : State) (c : L4Class) :
    (s.setL4 c).runState = s.runState := rfl
@[simp] theorem State.setL4_status (s : State) (c : L4Class) :
    (s.setL4 c).status = s.status := rfl
@[simp] theorem State.setL4_errStage (s : State) (c : L4Class) :
    (s.setL4 c).errStage = s.errStage := rfl
@[simp] theorem State.setL4_frameLen (s : State) (c : L4Class) :
    (s.setL4 c).frameLen = s.frameLen := rfl
@[simp] theorem State.setL4_stage (s : State) (c : L4Class) :
    (s.setL4 c).stage = s.stage := rfl
@[simp] theorem State.setL4_host (s : State) (c : L4Class) :
    (s.setL4 c).host = s.host := rfl
@[simp] theorem State.setL4_readData (s : State) (c : L4Class) :
    (s.setL4 c).readData = s.readData := rfl
@[simp] theorem State.setL4_draws (s : State) (c : L4Class) :
    (s.setL4 c).draws = s.draws := rfl
@[simp] theorem State.setL4_resets (s : State) (c : L4Class) :
    (s.setL4 c).resets = s.resets := rfl
@[simp] theorem State.setL4_eth (s : State) (c : L4Class) :
    (s.setL4 c).record.eth = s.record.eth := rfl
@[simp] theorem State.setL4_net (s : State) (c : L4Class) :
    (s.setL4 c).record.net = { s.record.net with l4Class := c } := rfl
@[simp] theorem State.setL4_arp (s : State) (c : L4Class) :
    (s.setL4 c).record.arp = s.record.arp := rfl
@[simp] theorem State.setL4_tcp (s : State) (c : L4Class) :
    (s.setL4 c).record.tcp = s.record.tcp := rfl
@[simp] theorem State.setL4_udp (s : State) (c : L4Class) :
    (s.setL4 c).record.udp = s.record.udp := rfl
@[simp] theorem State.setL4_icmp (s : State) (c : L4Class) :
    (s.setL4 c).record.icmp = s.record.icmp := rfl

/-! `State.setStage` -/

@[simp] theorem State.setStage_cfg (s : State) (st : Stage) :
    (s.setStage st).cfg = s.cfg := rfl
@[simp] theorem State.setStage_params (s : State) (st : Stage) :
    (s.setStage st).params = s.params := rfl
@[simp] theorem State.setStage_fb (s : State) (st : Stage) :
    (s.setStage st).fb = s.fb := rfl
@[simp] theorem State.setStage_flen (s : State) (st : Stage) :
    (s.setStage st).flen = s.flen := rfl
@[simp] theorem State.setStage_runState (s : State) (st : Stage) :
    (s.setStage st).runState = s.runState := rfl
@[simp] theorem State.setStage_status (s : State) (st : Stage) :
    (s.setStage st).status = s.status := rfl
@[simp] theorem State.setStage_errStage (s : State) (st : Stage) :
    (s.setStage st).errStage = s.errStage := rfl
@[simp] theorem State.setStage_frameLen (s : State) (st : Stage) :
    (s.setStage st).frameLen = s.frameLen := rfl
@[simp] theorem State.setStage_stage (s : State) (st : Stage) :
    (s.setStage st).stage = st := rfl
@[simp] theorem State.setStage_host (s : State) (st : Stage) :
    (s.setStage st).host = s.host := rfl
@[simp] theorem State.setStage_readData (s : State) (st : Stage) :
    (s.setStage st).readData = s.readData := rfl
@[simp] theorem State.setStage_draws (s : State) (st : Stage) :
    (s.setStage st).draws = s.draws := rfl
@[simp] theorem State.setStage_resets (s : State) (st : Stage) :
    (s.setStage st).resets = s.resets := rfl
@[simp] theorem State.setStage_record (s : State) (st : Stage) :
    (s.setStage st).record = s.record := rfl

/-! `State.clearRecord` -/

@[simp] theorem State.clearRecord_cfg (s : State) :
    (s.clearRecord).cfg = s.cfg := rfl
@[simp] theorem State.clearRecord_params (s : State) :
    (s.clearRecord).params = s.params := rfl
@[simp] theorem State.clearRecord_fb (s : State) :
    (s.clearRecord).fb = s.fb := rfl
@[simp] theorem State.clearRecord_flen (s : State) :
    (s.clearRecord).flen = s.flen := rfl
@[simp] theorem State.clearRecord_runState (s : State) :
    (s.clearRecord).runState = s.runState := rfl
@[simp] theorem State.clearRecord_status (s : State) :
    (s.clearRecord).status = s.status := rfl
@[simp] theorem State.clearRecord_errStage (s : State) :
    (s.clearRecord).errStage = s.errStage := rfl
@[simp] theorem State.clearRecord_frameLen (s : State) :
    (s.clearRecord).frameLen = s.frameLen := rfl
@[simp] theorem State.clearRecord_stage (s : State) :
    (s.clearRecord).stage = s.stage := rfl
@[simp] theorem State.clearRecord_host (s : State) :
    (s.clearRecord).host = s.host := rfl
@[simp] theorem State.clearRecord_readData (s : State) :
    (s.clearRecord).readData = s.readData := rfl
@[simp] theorem State.clearRecord_draws (s : State) :
    (s.clearRecord).draws = s.draws := rfl
@[simp] theorem State.clearRecord_resets (s : State) :
    (s.clearRecord).resets = s.resets := rfl
@[simp] theorem State.clearRecord_record (s : State) :
    (s.clearRecord).record = Record.zero := rfl

/-! `State.setFb` -/

@[simp] theorem State.setFb_cfg (s : State) (m : Memory) :
    (s.setFb m).cfg = s.cfg := rfl
@[simp] theorem State.setFb_params (s : State) (m : Memory) :
    (s.setFb m).params = s.params := rfl
@[simp] theorem State.setFb_fb (s : State) (m : Memory) :
    (s.setFb m).fb = m := rfl
@[simp] theorem State.setFb_flen (s : State) (m : Memory) :
    (s.setFb m).flen = s.flen := rfl
@[simp] theorem State.setFb_runState (s : State) (m : Memory) :
    (s.setFb m).runState = s.runState := rfl
@[simp] theorem State.setFb_status (s : State) (m : Memory) :
    (s.setFb m).status = s.status := rfl
@[simp] theorem State.setFb_errStage (s : State) (m : Memory) :
    (s.setFb m).errStage = s.errStage := rfl
@[simp] theorem State.setFb_frameLen (s : State) (m : Memory) :
    (s.setFb m).frameLen = s.frameLen := rfl
@[simp] theorem State.setFb_stage (s : State) (m : Memory) :
    (s.setFb m).stage = s.stage := rfl
@[simp] theorem State.setFb_host (s : State) (m : Memory) :
    (s.setFb m).host = s.host := rfl
@[simp] theorem State.setFb_readData (s : State) (m : Memory) :
    (s.setFb m).readData = s.readData := rfl
@[simp] theorem State.setFb_draws (s : State) (m : Memory) :
    (s.setFb m).draws = s.draws := rfl
@[simp] theorem State.setFb_resets (s : State) (m : Memory) :
    (s.setFb m).resets = s.resets := rfl
@[simp] theorem State.setFb_record (s : State) (m : Memory) :
    (s.setFb m).record = s.record := rfl

/-! `State.setFlen` -/

@[simp] theorem State.setFlen_cfg (s : State) (n : Nat) :
    (s.setFlen n).cfg = s.cfg := rfl
@[simp] theorem State.setFlen_params (s : State) (n : Nat) :
    (s.setFlen n).params = s.params := rfl
@[simp] theorem State.setFlen_fb (s : State) (n : Nat) :
    (s.setFlen n).fb = s.fb := rfl
@[simp] theorem State.setFlen_flen (s : State) (n : Nat) :
    (s.setFlen n).flen = n := rfl
@[simp] theorem State.setFlen_runState (s : State) (n : Nat) :
    (s.setFlen n).runState = s.runState := rfl
@[simp] theorem State.setFlen_status (s : State) (n : Nat) :
    (s.setFlen n).status = s.status := rfl
@[simp] theorem State.setFlen_errStage (s : State) (n : Nat) :
    (s.setFlen n).errStage = s.errStage := rfl
@[simp] theorem State.setFlen_frameLen (s : State) (n : Nat) :
    (s.setFlen n).frameLen = s.frameLen := rfl
@[simp] theorem State.setFlen_stage (s : State) (n : Nat) :
    (s.setFlen n).stage = s.stage := rfl
@[simp] theorem State.setFlen_host (s : State) (n : Nat) :
    (s.setFlen n).host = s.host := rfl
@[simp] theorem State.setFlen_readData (s : State) (n : Nat) :
    (s.setFlen n).readData = s.readData := rfl
@[simp] theorem State.setFlen_draws (s : State) (n : Nat) :
    (s.setFlen n).draws = s.draws := rfl
@[simp] theorem State.setFlen_resets (s : State) (n : Nat) :
    (s.setFlen n).resets = s.resets := rfl
@[simp] theorem State.setFlen_record (s : State) (n : Nat) :
    (s.setFlen n).record = s.record := rfl

/-! `State.setReadData` -/

@[simp] theorem State.setReadData_cfg (s : State) (v : Nat) :
    (s.setReadData v).cfg = s.cfg := rfl
@[simp] theorem State.setReadData_params (s : State) (v : Nat) :
    (s.setReadData v).params = s.params := rfl
@[simp] theorem State.setReadData_fb (s : State) (v : Nat) :
    (s.setReadData v).fb = s.fb := rfl
@[simp] theorem State.setReadData_flen (s : State) (v : Nat) :
    (s.setReadData v).flen = s.flen := rfl
@[simp] theorem State.setReadData_runState (s : State) (v : Nat) :
    (s.setReadData v).runState = s.runState := rfl
@[simp] theorem State.setReadData_status (s : State) (v : Nat) :
    (s.setReadData v).status = s.status := rfl
@[simp] theorem State.setReadData_errStage (s : State) (v : Nat) :
    (s.setReadData v).errStage = s.errStage := rfl
@[simp] theorem State.setReadData_frameLen (s : State) (v : Nat) :
    (s.setReadData v).frameLen = s.frameLen := rfl
@[simp] theorem State.setReadData_stage (s : State) (v : Nat) :
    (s.setReadData v).stage = s.stage := rfl
@[simp] theorem State.setReadData_host (s : State) (v : Nat) :
    (s.setReadData v).host = s.host := rfl
@[simp] theorem State.setReadData_readData (s : State) (v : Nat) :
    (s.setReadData v).readData = v := rfl
@[simp] theorem State.setReadData_draws (s : State) (v : Nat) :
    (s.setReadData v).draws = s.draws := rfl
@[simp] theorem State.setReadData_resets (s : State) (v : Nat) :
    (s.setReadData v).resets = s.resets := rfl
@[simp] theorem State.setReadData_record (s : State) (v : Nat) :
    (s.setReadData v).record = s.record := rfl

/-! `State.drawn` -/

@[simp] theorem State.drawn_cfg (s : State) :
    (s.drawn).cfg = s.cfg := rfl
@[simp] theorem State.drawn_params (s : State) :
    (s.drawn).params = s.params := rfl
@[simp] theorem State.drawn_fb (s : State) :
    (s.drawn).fb = s.fb := rfl
@[simp] theorem State.drawn_flen (s : State) :
    (s.drawn).flen = s.flen := rfl
@[simp] theorem State.drawn_runState (s : State) :
    (s.drawn).runState = s.runState := rfl
@[simp] theorem State.drawn_status (s : State) :
    (s.drawn).status = s.status := rfl
@[simp] theorem State.drawn_errStage (s : State) :
    (s.drawn).errStage = s.errStage := rfl
@[simp] theorem State.drawn_frameLen (s : State) :
    (s.drawn).frameLen = s.frameLen := rfl
@[simp] theorem State.drawn_stage (s : State) :
    (s.drawn).stage = s.stage := rfl
@[simp] theorem State.drawn_host (s : State) :
    (s.drawn).host = s.host := rfl
@[simp] theorem State.drawn_readData (s : State) :
    (s.drawn).readData = s.readData := rfl
@[simp] theorem State.drawn_draws (s : State) :
    (s.drawn).draws = s.draws + 1 := rfl
@[simp] theorem State.drawn_resets (s : State) :
    (s.drawn).resets = s.resets := rfl
@[simp] theorem State.drawn_record (s : State) :
    (s.drawn).record = s.record := rfl

/-! `State.setHost` -/

@[simp] theorem State.setHost_cfg (s : State) (h : List HostMove) :
    (s.setHost h).cfg = s.cfg := rfl
@[simp] theorem State.setHost_params (s : State) (h : List HostMove) :
    (s.setHost h).params = s.params := rfl
@[simp] theorem State.setHost_fb (s : State) (h : List HostMove) :
    (s.setHost h).fb = s.fb := rfl
@[simp] theorem State.setHost_flen (s : State) (h : List HostMove) :
    (s.setHost h).flen = s.flen := rfl
@[simp] theorem State.setHost_runState (s : State) (h : List HostMove) :
    (s.setHost h).runState = s.runState := rfl
@[simp] theorem State.setHost_status (s : State) (h : List HostMove) :
    (s.setHost h).status = s.status := rfl
@[simp] theorem State.setHost_errStage (s : State) (h : List HostMove) :
    (s.setHost h).errStage = s.errStage := rfl
@[simp] theorem State.setHost_frameLen (s : State) (h : List HostMove) :
    (s.setHost h).frameLen = s.frameLen := rfl
@[simp] theorem State.setHost_stage (s : State) (h : List HostMove) :
    (s.setHost h).stage = s.stage := rfl
@[simp] theorem State.setHost_host (s : State) (h : List HostMove) :
    (s.setHost h).host = h := rfl
@[simp] theorem State.setHost_readData (s : State) (h : List HostMove) :
    (s.setHost h).readData = s.readData := rfl
@[simp] theorem State.setHost_draws (s : State) (h : List HostMove) :
    (s.setHost h).draws = s.draws := rfl
@[simp] theorem State.setHost_resets (s : State) (h : List HostMove) :
    (s.setHost h).resets = s.resets := rfl
@[simp] theorem State.setHost_record (s : State) (h : List HostMove) :
    (s.setHost h).record = s.record := rfl

/-! `State.endDecode` -/

@[simp] theorem State.endDecode_cfg (s : State) (st : Status) (e : ErrStage) :
    (s.endDecode st e).cfg = s.cfg := rfl
@[simp] theorem State.endDecode_params (s : State) (st : Status) (e : ErrStage) :
    (s.endDecode st e).params = s.params := rfl
@[simp] theorem State.endDecode_fb (s : State) (st : Status) (e : ErrStage) :
    (s.endDecode st e).fb = s.fb := rfl
@[simp] theorem State.endDecode_flen (s : State) (st : Status) (e : ErrStage) :
    (s.endDecode st e).flen = s.flen := rfl
@[simp] theorem State.endDecode_runState (s : State) (st : Status) (e : ErrStage) :
    (s.endDecode st e).runState = .done := rfl
@[simp] theorem State.endDecode_status (s : State) (st : Status) (e : ErrStage) :
    (s.endDecode st e).status = st := rfl
@[simp] theorem State.endDecode_errStage (s : State) (st : Status) (e : ErrStage) :
    (s.endDecode st e).errStage = e := rfl
@[simp] theorem State.endDecode_frameLen (s : State) (st : Status) (e : ErrStage) :
    (s.endDecode st e).frameLen = s.frameLen := rfl
@[simp] theorem State.endDecode_stage (s : State) (st : Status) (e : ErrStage) :
    (s.endDecode st e).stage = .sEnd := rfl
@[simp] theorem State.endDecode_host (s : State) (st : Status) (e : ErrStage) :
    (s.endDecode st e).host = s.host := rfl
@[simp] theorem State.endDecode_readData (s : State) (st : Status) (e : ErrStage) :
    (s.endDecode st e).readData = s.readData := rfl
@[simp] theorem State.endDecode_draws (s : State) (st : Status) (e : ErrStage) :
    (s.endDecode st e).draws = s.draws := rfl
@[simp] theorem State.endDecode_resets (s : State) (st : Status) (e : ErrStage) :
    (s.endDecode st e).resets = s.resets := rfl
@[simp] theorem State.endDecode_record (s : State) (st : Status) (e : ErrStage) :
    (s.endDecode st e).record = s.record := rfl

/-! `State.beginDecode` -/

@[simp] theorem State.beginDecode_cfg (s : State) :
    (s.beginDecode).cfg = s.cfg := rfl
@[simp] theorem State.beginDecode_params (s : State) :
    (s.beginDecode).params = s.params := rfl
@[simp] theorem State.beginDecode_fb (s : State) :
    (s.beginDecode).fb = s.fb := rfl
@[simp] theorem State.beginDecode_flen (s : State) :
    (s.beginDecode).flen = s.flen := rfl
@[simp] theorem State.beginDecode_runState (s : State) :
    (s.beginDecode).runState = .busy := rfl
@[simp] theorem State.beginDecode_status (s : State) :
    (s.beginDecode).status = .none := rfl
@[simp] theorem State.beginDecode_errStage (s : State) :
    (s.beginDecode).errStage = .none := rfl
@[simp] theorem State.beginDecode_frameLen (s : State) :
    (s.beginDecode).frameLen = s.flen := rfl
@[simp] theorem State.beginDecode_stage (s : State) :
    (s.beginDecode).stage = .sEth := rfl
@[simp] theorem State.beginDecode_host (s : State) :
    (s.beginDecode).host = s.host := rfl
@[simp] theorem State.beginDecode_readData (s : State) :
    (s.beginDecode).readData = s.readData := rfl
@[simp] theorem State.beginDecode_draws (s : State) :
    (s.beginDecode).draws = s.draws := rfl
@[simp] theorem State.beginDecode_resets (s : State) :
    (s.beginDecode).resets = s.resets := rfl
@[simp] theorem State.beginDecode_record (s : State) :
    (s.beginDecode).record = Record.zero := rfl

/-! The record registers cleared, by group -/

@[simp] theorem Record.zero_eth : Record.zero.eth = EthRegs.zero := rfl
@[simp] theorem Record.zero_net : Record.zero.net = NetRegs.zero := rfl
@[simp] theorem Record.zero_arp : Record.zero.arp = ArpRegs.zero := rfl
@[simp] theorem Record.zero_tcp : Record.zero.tcp = TcpRegs.zero := rfl
@[simp] theorem Record.zero_udp : Record.zero.udp = UdpRegs.zero := rfl
@[simp] theorem Record.zero_icmp : Record.zero.icmp = IcmpRegs.zero := rfl

end Sys2Proof.Machine
end

