-- ==== Sys2Proof/Laws/Ops.lean ====
section
/-! SUPPORT. One lemma per shared operation that says what it can do, for proofs to cite instead of
unfolding it. -/

namespace Sys2Proof.Machine

/-- The constants of every machine are those the spec gives. -/
@[simp] theorem State.cfg_toConstants (s : State) : s.cfg.toConstants = Constants.given := rfl

@[simp] theorem hardReset_params (s : State) : (hardReset s).params = s.params := rfl
@[simp] theorem hardReset_cfg (s : State) : (hardReset s).cfg = s.cfg := rfl
@[simp] theorem hardReset_record (s : State) : (hardReset s).record = Record.zero := rfl
@[simp] theorem hardReset_fb (s : State) : (hardReset s).fb = [] := rfl
@[simp] theorem hardReset_host (s : State) : (hardReset s).host = s.host := rfl

/-! Reading the frame -/

theorem fbByte_congr {s t : State} (hf : t.fb = s.fb) (hr : t.resets = s.resets) (a : Nat) :
    fbByte t a = fbByte s a := by
  unfold fbByte; rw [hf, hr]

theorem frameBytes_length (s : State) (a n : Nat) : (frameBytes s a n).length = n := by
  induction n generalizing a with
  | zero => rfl
  | succ n ih => simp [frameBytes, ih]

theorem frameBytes_congr {s t : State} {a n : Nat}
    (h : ∀ i, a ≤ i → i < a + n → fbByte t i = fbByte s i) : frameBytes t a n = frameBytes s a n := by
  induction n generalizing a with
  | zero => rfl
  | succ n ih =>
    simp only [frameBytes]
    rw [h a (le_refl a) (by omega), ih fun i h1 h2 => h i (by omega) (by omega)]

theorem field_congr {s t : State} {a n : Nat}
    (h : ∀ i, a ≤ i → i < a + n → fbByte t i = fbByte s i) : field t a n = field s a n := by
  unfold field; rw [frameBytes_congr h]

theorem beValue_lt (bs : List Byte) : beValue bs < 256 ^ bs.length := by
  induction bs with
  | nil => simp [beValue]
  | cons b bs ih =>
    have hb : b.toNat < 256 := b.isLt
    calc 256 ^ bs.length * b.toNat + beValue bs
        < 256 ^ bs.length * b.toNat + 256 ^ bs.length := by omega
      _ = 256 ^ bs.length * (b.toNat + 1) := by ring
      _ ≤ 256 ^ bs.length * 256 := Nat.mul_le_mul_left _ hb
      _ = 256 ^ (b :: bs).length := by simp [pow_succ]

theorem field_lt (s : State) (a n : Nat) : field s a n < 256 ^ n := by
  have h := beValue_lt (frameBytes s a n)
  rwa [frameBytes_length] at h

/-- A MemRead inside the frame and FB has the value of its bytes. -/
theorem withField_inside {s : State} {a n : Nat} (k : Nat → Result)
    (hf : a + n ≤ s.frameLen) (hb : s.frameLen ≤ s.cfg.frameMax) :
    withField s a n k = k (field s a n) := by
  have h1 : ¬ s.frameLen < a + n := by omega
  have h2 : ¬ s.cfg.frameMax < a + n := by omega
  simp [withField, memRead, h1, h2]

/-- What a MemRead can do: it goes on with the value of its bytes, or the machine faults. -/
theorem withField_next {s t : State} {a n : Nat} {k : Nat → Result}
    (h : withField s a n k = .next t) :
    a + n ≤ s.frameLen ∧ a + n ≤ s.cfg.frameMax ∧ k (field s a n) = .next t := by
  unfold withField memRead at h
  split at h
  · rename_i v hv
    split at hv
    · cases hv
    · split at hv
      · cases hv
      · cases hv; exact ⟨by omega, by omega, h⟩
  · cases h

/-- A field of a view that lies inside the frame and FB has the value of its bytes. -/
theorem readField_inside {s : State} {base : Nat} {f : Slice} (k : Nat → Result)
    (hf : base + f.off + f.size ≤ s.frameLen) (hb : s.frameLen ≤ s.cfg.frameMax) :
    readField s base f k = k (field s (base + f.off) f.size) :=
  withField_inside k hf hb

/-- What reading a field can do: it goes on with the value of its bytes, or the machine faults. -/
theorem readField_next {s t : State} {base : Nat} {f : Slice} {k : Nat → Result}
    (h : readField s base f k = .next t) :
    base + f.off + f.size ≤ s.frameLen ∧ base + f.off + f.size ≤ s.cfg.frameMax ∧
      k (field s (base + f.off) f.size) = .next t :=
  withField_next h

/-! The length test -/

theorem requireLen_short {len least : Nat} {e : ErrStage} {s : State} {k : Result}
    (h : len < least) : requireLen len least e s k = .next (enterUnderflow e s) := by
  simp [requireLen, h]

theorem requireLen_enough {len least : Nat} {e : ErrStage} {s : State} {k : Result}
    (h : least ≤ len) : requireLen len least e s k = k := by
  simp [requireLen, Nat.not_lt.2 h]

/-- What the length test can do: Underflow entry, or the operation goes on. -/
theorem requireLen_next {len least : Nat} {e : ErrStage} {s t : State} {k : Result}
    (h : requireLen len least e s k = .next t) :
    (len < least ∧ t = enterUnderflow e s) ∨ (least ≤ len ∧ k = .next t) := by
  unfold requireLen at h
  split at h
  · rename_i hl; cases h; exact .inl ⟨hl, rfl⟩
  · exact .inr ⟨by omega, h⟩

/-! Host operations -/

/-- What a host operation that is locked while BUSY can do. -/
theorem unlessBusy_cases (s t : State) :
    (s.runState = .busy ∧ unlessBusy s t = s) ∨ (s.runState ≠ .busy ∧ unlessBusy s t = t) := by
  unfold unlessBusy
  split
  · rename_i h; exact .inl ⟨h, rfl⟩
  · rename_i h; exact .inr ⟨h, rfl⟩

theorem unlessBusy_busy {s : State} (t : State) (h : s.runState = .busy) : unlessBusy s t = s := by
  simp [unlessBusy, h]

theorem unlessBusy_free {s : State} (t : State) (h : s.runState ≠ .busy) : unlessBusy s t = t := by
  simp [unlessBusy, h]

/-- What a write of one byte can do. -/
theorem memWrite_cases (s : State) (i : Nat) (b : Byte) :
    (i < s.cfg.frameMax ∧ memWrite s i b = s.setFb (Memory.set s.fb i b)) ∨
    (s.cfg.frameMax ≤ i ∧ memWrite s i b = s) := by
  unfold memWrite
  split
  · rename_i h; exact .inl ⟨h, rfl⟩
  · exact .inr ⟨by omega, rfl⟩

/-- What a register read can do: it hands the host a value and at most counts a draw. -/
theorem readRegister_cases (s : State) (k : Nat) :
    ∃ v, readRegister s k = s.setReadData v ∨ readRegister s k = (s.setReadData v).drawn := by
  unfold readRegister
  split
  · exact ⟨0, .inl rfl⟩
  · split
    · exact ⟨_, .inr rfl⟩
    · exact ⟨_, .inl rfl⟩

end Sys2Proof.Machine
end

