-- ==== Sys2Proof/Laws/PerInstr.lean ====
section
/-! SUPPORT. Statements about every operation as syntax, one lemma per constructor. Family
`EncodedFits`: what the encoder writes for a well-formed operation is a selector its format can
express on the machine, with nothing the decoder would cut off. -/

namespace Sys2Proof

namespace Laws.EncodedFits

/-- The encoding of `i`, where `i` is well-formed, can be expressed. -/
def Statement (i : Instr) : Prop := ∀ c : Config, i.wf c = true → (encode c i).wf c = true

theorem eth : Statement .eth := fun _ _ => rfl
theorem l3dIpv4 : Statement .l3dIpv4 := fun _ _ => rfl
theorem l3dArp : Statement .l3dArp := fun _ _ => rfl
theorem l3dIpv6 : Statement .l3dIpv6 := fun _ _ => rfl
theorem l3dUnknown (e : BitVec 16) : Statement (.l3dUnknown e) := fun _ _ => rfl
theorem net4 : Statement .net4 := fun _ _ => rfl
theorem net6 : Statement .net6 := fun _ _ => rfl
theorem netarp : Statement .netarp := fun _ _ => rfl
theorem netunk : Statement .netunk := fun _ _ => rfl
theorem arpd : Statement .arpd := fun _ _ => rfl
theorem l4dTcp : Statement .l4dTcp := fun _ _ => rfl
theorem l4dUdp : Statement .l4dUdp := fun _ _ => rfl
theorem l4dIcmp : Statement .l4dIcmp := fun _ _ => rfl
theorem l4dIcmp6 : Statement .l4dIcmp6 := fun _ _ => rfl
theorem l4dUnknown (p : BitVec 8) : Statement (.l4dUnknown p) := fun _ _ => rfl
theorem tcpd : Statement .tcpd := fun _ _ => rfl
theorem udpd : Statement .udpd := fun _ _ => rfl
theorem icmpd : Statement .icmpd := fun _ _ => rfl
theorem icmp6d : Statement .icmp6d := fun _ _ => rfl
theorem xnone : Statement .xnone := fun _ _ => rfl
theorem start : Statement .start := fun _ _ => rfl
theorem cnop : Statement .cnop := fun _ _ => rfl
theorem wfb (i : Nat) (b : Byte) : Statement (.wfb i b) := fun _ h => h
theorem wflen (n : Nat) : Statement (.wflen n) := fun c h => by
  simpa [encode, Selector.wf, Instr.wf] using h
theorem rreg (k : Nat) : Statement (.rreg k) := fun _ _ => rfl

end Laws.EncodedFits

end Sys2Proof
end

