-- ==== Sys2Proof/Laws/Run.lean ====
section
/-! SUPPORT. Running several steps. -/

namespace Sys2Proof.Machine

theorem runSteps_next {s t : State} (k : Nat) (h : step s = .next t) :
    runSteps (k + 1) s = runSteps k t := by
  simp [runSteps, h]

/-- A run of `j + k` steps is a run of `j` and then one of `k`. -/
theorem runSteps_add {s t : State} (j k : Nat) (h : runSteps j s = .next t) :
    runSteps (j + k) s = runSteps k t := by
  induction j generalizing s with
  | zero => simp only [runSteps] at h; cases h; simp
  | succ j ih =>
    rw [Nat.succ_add]
    simp only [runSteps] at h ⊢
    split at h
    · rename_i u hu; simpa [hu] using ih h
    · cases h
    · cases h

theorem core_run_next (M : Host.Core) {k : Nat} {s t : M.State} (h : M.step s = .next t) :
    M.run (k + 1) s = M.run k t := by
  rw [Host.Core.run, h]

theorem core_run_fault (M : Host.Core) {k : Nat} {s : M.State} {f : M.Fault}
    (h : M.step s = .fault f) : M.run (k + 1) s = .fault f := by
  rw [Host.Core.run, h]

theorem core_run_refused (M : Host.Core) {k : Nat} {s : M.State} {r : M.Refusal}
    (h : M.step s = .refused r) : M.run (k + 1) s = .refused r := by
  rw [Host.Core.run, h]

/-- `runSteps` is the host's `Core.run`. -/
theorem runSteps_eq_run (k : Nat) (s : State) : runSteps k s = Host.Core.run Sys2Proof.core k s := by
  induction k generalizing s with
  | zero => rfl
  | succ k ih =>
    cases h : step s with
    | next t =>
      rw [runSteps_next k h, ih t]
      exact (core_run_next Sys2Proof.core h).symm
    | fault f =>
      refine Eq.trans ?_ (core_run_fault Sys2Proof.core h).symm
      simp only [runSteps, h]
      rfl
    | refused r =>
      refine Eq.trans ?_ (core_run_refused Sys2Proof.core h).symm
      simp only [runSteps, h]
      rfl

end Sys2Proof.Machine
end

