-- ==== Sys2Proof/Tests/Slice0.lean ====
section
/-! SUPPORT. Tests of one step each, with the expected values of `spec/95_test_vectors.md`, and one
named witness for the hypotheses of each statement (`witness_<statement>`). -/

namespace Sys2Proof.Machine.Tests

open Sys2Proof Sys2Proof.Machine

/-! States for the tests -/

/-- The `n` bytes of a number, most significant first. -/
def hex (n v : Nat) : List Byte := (List.range n).map fun i => BitVec.ofNat 8 (v / 256 ^ (n - 1 - i))

/-- A frame buffer whose bytes from `i` on are those given. -/
def buffer : Nat → List Byte → Memory
  | _, [] => []
  | i, b :: bs => (i, b) :: buffer (i + 1) bs

/-- Just after reset, the frame loaded and its length written. -/
def loaded (f : List Byte) : State := { State.reset with fb := buffer 0 f, flen := f.length }

/-- Just after START. -/
def begun (f : List Byte) : State := (loaded f).beginDecode

/-- At S_NET (or S_ARPD), with the class and the layer-2 view that ETH leaves. -/
def atNet (f : List Byte) (c : L3Class) (st : Stage) : State :=
  ((begun f).setEth { EthRegs.zero with l3Class := c, pay2Off := 18, pay2Len := f.length - 18 }).setStage st

/-- At S_XPORT, with the class and the layer-3 view from `off` on. -/
def atXport (f : List Byte) (off : Nat) (c : L4Class) : State :=
  ((begun f).setNet { NetRegs.zero with l4Class := c, pay3Off := off, pay3Len := f.length - off }).setStage
    .sXport

/-- The host's next move is the access given. -/
def asks (s : State) (r : PortReq) : State := s.setHost [.port r]

/-- The next state of an outcome. -/
def nextOf : Result → Option State
  | .next t => some t
  | .fault _ => none
  | .refused _ => none

/-- Program P1: tagged IPv4 / TCP SYN, 60 bytes. -/
def p1 : List Byte := hex 60
  0x00112233445566778899aabb81000064_080045000028123440004006149a0a00_00010a000002c0000050010203040000_000050027210000000000000

/-- Program P2: tagged real ARP request, 60 bytes. -/
def p2 : List Byte := hex 60
  0xffffffffffff66778899aabb81000064_0806000108000604000166778899aabb_0a0000050000000000000a0000010000_000000000000000000000000

/-- Program P3: tagged IPv6 / UDP, 70 bytes. -/
def p3 : List Byte := hex 70
  0x3333000000fb66778899aabb81000064_86dd60000000000c1140fe8000000000_00000000000000000001ff0200000000_000000000000000000fb14e914e9000c_abcddeadbeef

/-- Program P4: untagged IPv4 / TCP, 60 bytes. -/
def p4 : List Byte := hex 60
  0x00112233445566778899aabb08004500_0028123440004006149a0a0000010a00_0002c000005001020304000000005002_721000000000000000000000

/-- Program P6: tagged IPv4 / ICMP echo request, 50 bytes. -/
def p6 : List Byte := hex 50
  0x00112233445566778899aabb81000064_08004500002012344000400114a70a00_00010a00000208002104123400016162_6364

/-- Program P8: tagged IPv6 / ICMPv6 echo request, 66 bytes. -/
def p8 : List Byte := hex 66
  0x00112233445566778899aabb81000064_86dd6000000000083aff20010db80000_0000000000000000000120010db80000_00000000000000000002800000000001_0001

/-! Well-formedness: one ill-formed term for each check -/

theorem test_wf_l3dUnknown : [0x0800#16, 0x0806#16, 0x86DD#16].all
    (fun e => !(Instr.l3dUnknown e).wf Config.atReset) = true := by decide
theorem test_wf_l4dUnknown : [6#8, 17#8, 1#8, 58#8].all
    (fun p => !(Instr.l4dUnknown p).wf Config.atReset) = true := by decide
theorem test_wf_wfb : (Instr.wfb 65536 0#8).wf Config.atReset = false ∧
    (Instr.wfb 65535 0#8).wf Config.atReset = true := by decide
theorem test_wf_wflen : (Instr.wflen 65536).wf Config.atReset = false ∧
    (Instr.wflen 65535).wf Config.atReset = true := by decide
theorem test_wf_selector :
    [Selector.stage .sNet, .stage .sXport, .stage .sEnd, .l4class 6#3, .l4class 7#3,
      .port (.writeFrame 65536 0#8), .port (.writeReg 0 2), .port (.writeReg 4 65536),
      .port (.writeReg 5 0)].all (fun sel => !sel.wf Config.atReset) = true := by decide

/-! Decoding: the selectors of `30` R109 to R112 and R117, bit by bit -/

theorem test_decode_l3d :
    decode Config.atReset (.etype16 0b0000100000000000#16) = .ok .l3dIpv4 ∧
    decode Config.atReset (.etype16 0b0000100000000110#16) = .ok .l3dArp ∧
    decode Config.atReset (.etype16 0b1000011011011101#16) = .ok .l3dIpv6 ∧
    decode Config.atReset (.etype16 0b1000000100000000#16) = .ok (.l3dUnknown 0x8100#16) :=
  ⟨rfl, rfl, rfl, rfl⟩
/-- The corner cases of `41` R151 to R153. -/
theorem test_decode_l3d_neighbours :
    [0x0008#16, 0x0805#16, 0x0807#16, 0xDD86#16, 0x0000#16, 0xFFFF#16].all (l3d Config.atReset · == .unknown) = true := by
  decide
theorem test_decode_l4d :
    decode Config.atReset (.proto8 0b00000110#8) = .ok .l4dTcp ∧
    decode Config.atReset (.proto8 0b00010001#8) = .ok .l4dUdp ∧
    decode Config.atReset (.proto8 0b00000001#8) = .ok .l4dIcmp ∧
    decode Config.atReset (.proto8 0b00111010#8) = .ok .l4dIcmp6 ∧
    decode Config.atReset (.proto8 0b00000010#8) = .ok (.l4dUnknown 2#8) :=
  ⟨rfl, rfl, rfl, rfl, rfl⟩
/-- The corner cases of `43` R181 to R185. -/
theorem test_decode_l4d_neighbours :
    [5#8, 7#8, 23#8, 88#8, 0#8, 255#8, 43#8, 44#8, 60#8].all (l4d Config.atReset · == .unknown) = true := by decide
theorem test_decode_net :
    decode Config.atReset (.l3class 0b01#2) = .ok .net4 ∧
    decode Config.atReset (.l3class 0b10#2) = .ok .net6 ∧
    decode Config.atReset (.l3class 0b11#2) = .ok .netarp ∧
    decode Config.atReset (.l3class 0b00#2) = .ok .netunk := ⟨rfl, rfl, rfl, rfl⟩
theorem test_decode_xport :
    decode Config.atReset (.l4class 0b001#3) = .ok .tcpd ∧
    decode Config.atReset (.l4class 0b010#3) = .ok .udpd ∧
    decode Config.atReset (.l4class 0b011#3) = .ok .icmpd ∧
    decode Config.atReset (.l4class 0b100#3) = .ok .icmp6d ∧
    decode Config.atReset (.l4class 0b000#3) = .ok .xnone ∧
    decode Config.atReset (.l4class 0b101#3) = .ok .xnone ∧
    decode Config.atReset (.l4class 0b110#3) = .error (.reservedL4Class 6#3) :=
  ⟨rfl, rfl, rfl, rfl, rfl, rfl, rfl⟩
theorem test_decode_stage :
    decode Config.atReset (.stage .sEth) = .ok .eth ∧
    decode Config.atReset (.stage .sArpd) = .ok .arpd ∧
    decode Config.atReset (.stage .sEnd) = .error (.noStageOperation .sEnd) := ⟨rfl, rfl, rfl⟩
theorem test_decode_port :
    decode Config.atReset (.port (.writeReg 0 0b1)) = .ok .start ∧
    decode Config.atReset (.port (.writeReg 0 0b0)) = .ok .cnop ∧
    decode Config.atReset (.port (.writeFrame 16 0b00001000#8)) = .ok (.wfb 16 0x08#8) ∧
    decode Config.atReset (.port (.writeReg 4 0b111100)) = .ok (.wflen 60) ∧
    decode Config.atReset (.port (.readReg 24)) = .ok (.rreg 24) ∧
    decode Config.atReset (.port (.writeReg 8 1)) = .error (.ignoredWrite 8) :=
  ⟨rfl, rfl, rfl, rfl, rfl, rfl⟩
theorem test_table_words :
    decodeTableWord 16 0x0806 = some .l3dArp ∧ decodeTableWord 8 0x11 = some .l4dUdp ∧
    decodeTableWord 8 0x01 = some .net4 ∧ decodeTableWord 0 0 = some .eth ∧
    decodeTableWord 1 1 = some .start ∧ decodeTableWord 16 0x10000 = none := by decide

/-- The absolute frame indices of `20` R78's table, from the constants of the configuration. -/
theorem test_frame_indices :
    let c := Config.atReset
    let l2 := c.ethHdrLen
    (c.ethOffDst, c.ethOffSrc, c.ethOffTag, c.ethOffEtype) = (⟨0, 6⟩, ⟨6, 6⟩, ⟨12, 4⟩, ⟨16, 2⟩) ∧
    [c.ipv4OffProto, c.ipv4OffSrc, c.ipv4OffDst, c.ipv6OffNh, c.ipv6OffSrc, c.ipv6OffDst,
      c.arpnetOffSrc, c.arpnetOffDst, c.arpOffOpcode, c.arpOffSmac, c.arpOffTmac].map
        (fun f => (l2 + f.off, l2 + f.off + f.size - 1)) =
      [(27, 27), (30, 33), (34, 37), (24, 24), (26, 41), (42, 57), (30, 33), (34, 37), (24, 25),
        (26, 31), (36, 41)] ∧
    [c.tcpOffFlags, c.tcpOffWindow, c.udpOffCsum, c.icmpOffCode].map
        (fun f => (l2 + c.ipv4MinLen + f.off, l2 + c.ipv6MinLen + f.off)) =
      [(51, 71), (52, 72), (44, 64), (39, 59)] := by decide

/-! ETH (V1, P1, P4) -/

theorem test_eth_fields : (nextOf (exec .eth (begun p1))).map (fun t => (t.record.eth, t.stage)) =
    some (⟨0x001122334455#48, 0x66778899AABB#48, 0x81000064#32, 0x0800#16, .ipv4, 18, 42⟩, .sNet) := by
  decide
theorem test_eth_lengths :
    (nextOf (exec .eth (begun (p1.take 17)))).map (fun t => (t.status, t.errStage)) =
      some (.underflow, .eth) ∧
    (nextOf (exec .eth (begun (p1.take 18)))).map (fun t => (t.stage, t.record.eth.pay2Len)) =
      some (.sNet, 0) := by decide

/-! The dispatcher rows -/

theorem test_l3d_rows : ([Instr.l3dIpv4, .l3dArp, .l3dIpv6, .l3dUnknown 0x0028#16].map fun i =>
    (nextOf (exec i (begun []))).map fun t => (l3Code t.record.eth.l3Class).toNat) =
    [some 1, some 3, some 2, some 0] := by decide
theorem test_l4d_rows : ([Instr.l4dTcp, .l4dUdp, .l4dIcmp, .l4dIcmp6, .l4dUnknown 2#8].map fun i =>
    (nextOf (exec i (begun []))).map fun t => (l4Code t.record.net.l4Class).toNat) =
    [some 1, some 2, some 3, some 4, some 0] := by decide

/-! The network stage (V4, V5, P1 to P4) -/

theorem test_net4_fields :
    (nextOf (exec .net4 (atNet p1 .ipv4 .sNet))).map (fun t => (t.record.net, t.stage)) =
    some (⟨0x0A000001#128, 0x0A000002#128, .tcp, 38, 22⟩, .sXport) := by decide
theorem test_net4_lengths :
    (nextOf (exec .net4 (atNet (p1.take 37) .ipv4 .sNet))).map (·.errStage) = some .net4 ∧
    (nextOf (exec .net4 (atNet (p1.take 38) .ipv4 .sNet))).map (·.record.net.pay3Len) = some 0 := by
  decide
theorem test_net6_fields :
    (nextOf (exec .net6 (atNet p3 .ipv6 .sNet))).map (fun t => (t.record.net, t.stage)) =
    some (⟨0xFE800000000000000000000000000001#128, 0xFF0200000000000000000000000000FB#128, .udp, 58, 12⟩,
      .sXport) := by decide
theorem test_net6_lengths :
    (nextOf (exec .net6 (atNet (p3.take 57) .ipv6 .sNet))).map (·.errStage) = some .net6 ∧
    (nextOf (exec .net6 (atNet (p3.take 58) .ipv6 .sNet))).map (·.record.net.pay3Len) = some 0 := by
  decide
theorem test_netarp_fields :
    (nextOf (exec .netarp (atNet p2 .arp .sNet))).map (fun t => (t.record.net, t.stage)) =
    some (⟨0xAABB0A00#128, 0x00050000#128, .arp, 38, 22⟩, .sArpd) := by decide
theorem test_netarp_lengths :
    (nextOf (exec .netarp (atNet (p2.take 37) .arp .sNet))).map (·.errStage) = some .netarp ∧
    (nextOf (exec .netarp (atNet (p2.take 38) .arp .sNet))).map (·.stage) = some .sArpd := by decide
/-- P4: an untagged frame's ethertype reads 0x0028, and the decode ends with L3_UNKNOWN. -/
theorem test_netunk_untagged :
    ((nextOf (exec .eth (begun p4))).bind fun s => nextOf (exec .netunk s)).map
      (fun t => (t.record.eth.etype, t.record.eth.dot1q, t.status, t.errStage, t.runState, t.valid)) =
    some (0x0028#16, 0x08004500#32, .l3Unknown, .none, .done, 1) := by decide

/-! ARPD (V6, P2) -/

theorem test_arpd_fields :
    (nextOf (exec .arpd (atNet p2 .arp .sArpd))).map (fun t => (t.record.arp, t.stage)) =
    some (⟨0x0001#16, 0x66778899AABB#48, 0x000000000000#48⟩, .sXport) := by decide
theorem test_arpd_lengths :
    (nextOf (exec .arpd (atNet (p2.take 41) .arp .sArpd))).map (·.errStage) = some .arpd ∧
    (nextOf (exec .arpd (atNet (p2.take 42) .arp .sArpd))).map (·.stage) = some .sXport := by decide

/-! The transport stage (V7, V8, P1, P3, P6, P8) -/

theorem test_tcpd_fields :
    (nextOf (exec .tcpd (atXport p1 38 .tcp))).map (fun t => (t.record.tcp, t.status, t.valid)) =
    some (⟨0xC000#16, 0x0050#16, 0x01020304#32, 0#32, 0x02#8, 0x7210#16⟩, .ok, 11) := by decide
theorem test_tcpd_lengths :
    (nextOf (exec .tcpd (atXport (p1.take 57) 38 .tcp))).map (·.errStage) = some .tcpd ∧
    (nextOf (exec .tcpd (atXport (p1.take 58) 38 .tcp))).map (·.status) = some .ok := by decide
theorem test_udpd_fields :
    (nextOf (exec .udpd (atXport p3 58 .udp))).map (fun t => (t.record.udp, t.status, t.valid)) =
    some (⟨0x14E9#16, 0x14E9#16, 0x000C#16, 0xABCD#16⟩, .ok, 11) := by decide
theorem test_udpd_lengths :
    (nextOf (exec .udpd (atXport (p3.take 65) 58 .udp))).map (·.errStage) = some .udpd ∧
    (nextOf (exec .udpd (atXport (p3.take 66) 58 .udp))).map (·.status) = some .ok := by decide
theorem test_icmpd_fields :
    (nextOf (exec .icmpd (atXport p6 38 .icmp))).map (fun t => (t.record.icmp, t.status, t.valid)) =
    some (⟨8#8, 0#8⟩, .ok, 11) := by decide
/-- V8: cut to 40 bytes the frame passes with ICMP_MIN_LEN = 2 and underflows with 4. -/
theorem test_icmpd_parameter :
    (nextOf (exec .icmpd (atXport (p6.take 39) 38 .icmp))).map (·.errStage) = some .icmpd ∧
    (nextOf (exec .icmpd (atXport (p6.take 40) 38 .icmp))).map (·.status) = some .ok ∧
    (nextOf (exec .icmpd { atXport (p6.take 40) 38 .icmp with params := ⟨16, 4, 2⟩ })).map (·.errStage) =
      some .icmpd := by decide
theorem test_icmp6d_fields :
    (nextOf (exec .icmp6d (atXport p8 58 .icmpv6))).map (fun t => (t.record.icmp, t.status, t.valid)) =
    some (⟨128#8, 0#8⟩, .ok, 11) := by decide
theorem test_icmp6d_parameter :
    (nextOf (exec .icmp6d (atXport (p8.take 59) 58 .icmpv6))).map (·.errStage) = some .icmp6d ∧
    (nextOf (exec .icmp6d { atXport (p8.take 60) 58 .icmpv6 with params := ⟨16, 8, 2⟩ })).map (·.status) =
      some .ok := by decide
theorem test_xnone : (nextOf (exec .xnone (atXport (p1.take 38) 38 .unknown))).map
    (fun t => (t.status, t.valid, t.runState, t.stage)) = some (.ok, 3, .done, .sEnd) := by decide
/-- P2's end: XNONE after ARPD, VALID = 0b0111. -/
theorem test_xnone_arp :
    (nextOf (exec .xnone (((atNet p2 .arp .sXport).setL4 .arp)))).map (fun t => (t.status, t.valid)) =
      some (.ok, 7) := by decide

/-! The host port (V10) -/

theorem test_start_short : (nextOf (step (asks (loaded []) (.writeReg 0 1)))).map
    (fun t => (t.runState, t.stage, t.frameLen)) = some (.busy, .sEth, 0) := by decide
/-- "CTRL write 0xFFFFFFFF" is START, "0xFFFFFFFE" is CNOP. -/
theorem test_ctrl_upper_bits :
    (nextOf (step (asks (loaded p1) (.writeReg 0 0xFFFFFFFF)))).map (·.frameLen) = some 60 ∧
    (nextOf (step (asks (loaded p1) (.writeReg 0 0xFFFFFFFE)))).map (·.runState) = some .idle := by
  decide
theorem test_cnop : nextOf (step (asks (loaded p1) (.writeReg 0 0))) = some (loaded p1) := by decide
/-- "STATE = 1: WFB(16, 0xFF), WFLEN(0): both ignored", and a WFB when not busy. -/
theorem test_wfb :
    (nextOf (step (asks (begun p1) (.writeFrame 16 0xFF#8)))).map (fbByte · 16) = some 0x08#8 ∧
    (nextOf (step (asks (loaded p1) (.writeFrame 0 0xAA#8)))).map (fbByte · 0) = some 0xAA#8 := by
  decide
/-- The one index that can be expressed and is not in FB (`47` R236). -/
theorem test_wfb_last : nextOf (exec (.wfb 65535 0xAA#8) (loaded [])) = some (loaded []) ∧
    (nextOf (exec (.wfb 65534 0xAA#8) (loaded []))).map (fbByte · 65534) = some 0xAA#8 := by decide
theorem test_wflen :
    (nextOf (step (asks (loaded p1) (.writeReg 4 10)))).map (fun t => (t.flen, t.frameLen)) =
      some (10, 0) ∧
    (nextOf (step (asks (begun p1) (.writeReg 4 0)))).map (·.flen) = some 60 := by decide
/-- R238's example, and the numbers that read 0. -/
theorem test_rreg :
    ((nextOf (exec .tcpd (atXport p1 38 .tcp))).bind fun s => nextOf (exec (.rreg 24) s)).map
      (·.readData) = some 80 ∧
    ([0, 7, 35, 200].map fun k => (nextOf (exec (.rreg k) (loaded p1))).map (·.readData)) =
      [some 0, some 0, some 0, some 0] := by decide
theorem test_rreg_busy :
    (nextOf (step (asks (begun p1) (.readReg 1)))).map (fun t => (t.readData, t.draws)) =
      some (1, 0) ∧
    (nextOf (step (asks (begun p1) (.readReg 11)))).map (·.draws) = some 1 := ⟨by decide, rfl⟩
/-- Register numbers against the table of `10` R20. -/
theorem test_register_numbers :
    regOfNumber 3 = some .errStage ∧ regOfNumber 8 = some .dstMac ∧ regOfNumber 15 = some .srcAddr ∧
    regOfNumber 20 = some .arpOpcode ∧ regOfNumber 27 = some .tcpFlags ∧
    regOfNumber 32 = some .udpCsum ∧ regOfNumber 34 = some .icmpCode ∧ regOfNumber 7 = none ∧
    regOfNumber 35 = none := by decide
/-- Reset in BUSY: the decode is abandoned (`70` R320). -/
theorem test_reset_busy : (nextOf (step ((begun p1).setHost [.reset]))).map
    (fun t => (t.runState, t.stage, t.flen, t.fb)) = some (.idle, .sEnd, 0, []) := by decide
/-- A placed word is what the very next step runs. -/
theorem test_withFetchWord :
    (nextOf (step (State.reset.withFetchWord 16 0x86DD))).map (·.record.eth.l3Class) = some .ipv6 ∧
    (nextOf (step (State.reset.withFetchWord 8 0x3A))).map (·.record.net.l4Class) = some .icmpv6 ∧
    (nextOf (step (State.reset.withFetchWord 8 0))).map (·.status) = some .l3Unknown ∧
    (nextOf (step (State.reset.withFetchWord 1 1))).map (·.runState) = some .busy := by decide

/-! The software texts (V9) -/

theorem test_mac_text : macText 0x66778899AABB#48 =
    ['6', '6', ':', '7', '7', ':', '8', '8', ':', '9', '9', ':', 'A', 'A', ':', 'B', 'B'] := by decide
theorem test_ipv4_text : dottedDecimal 0xAABB0A00#128 =
    ['1', '7', '0', '.', '1', '8', '7', '.', '1', '0', '.', '0'] := by decide
theorem test_ipv6_text : ipv6Text false 0xFF0200000000000000000000000000FB#128 =
    ['f', 'f', '2', ':', '0', ':', '0', ':', '0', ':', '0', ':', '0', ':', '0', ':', 'f', 'b', ':'] := by
  decide

/-! ## Witnesses -/

theorem next_of_some {r : Result} (h : (nextOf r).isSome = true) : ∃ t, r = .next t := by
  cases r with
  | next t => exact ⟨t, rfl⟩
  | fault f => cases h
  | refused f => cases h

theorem next_with {r : Result} (p : State → Bool) (h : (nextOf r).any p = true) :
    ∃ t, r = .next t ∧ p t = true := by
  cases r with
  | next t => exact ⟨t, rfl, h⟩
  | fault f => cases h
  | refused f => cases h

/-- The state `k` steps on. -/
def after (k : Nat) (s : State) : State := (nextOf (runSteps k s)).getD s

/-- P1 and P3 cut to their headers, with a protocol byte that has no decoder. -/
def noXport4 : List Byte := p1.take 27 ++ [2#8] ++ (p1.drop 28).take 10
def noXport6 : List Byte := p3.take 24 ++ [59#8] ++ (p3.drop 25).take 33

theorem witness_ResetEventFromEveryState :
    ((begun p1).setHost [.reset, .quiet]).host = HostMove.reset :: [.quiet] := rfl

/-- Both ways into IDLE: by reset, and by staying there. -/
theorem witness_OnlyResetReturnsToIdle :
    (∃ t, step ((begun p1).setHost [.reset]) = .next t ∧ (t.runState == .idle) = true) ∧
    (∃ t, step State.reset = .next t ∧ (t.runState == .idle) = true) :=
  ⟨next_with _ (by decide), next_with _ (by decide)⟩

theorem witness_inv_reset : StateInv State.reset :=
  ⟨by decide, by decide, by decide, by decide,
    by decide, by decide, by decide, by decide, by decide, by decide, by decide, by decide⟩
theorem witness_inv_begun : StateInv (begun (p1.take 18)) :=
  ⟨by decide, by decide, by decide, by decide,
    by decide, by decide, by decide, by decide, by decide, by decide, by decide, by decide⟩

/-- A decode ended in each of the five ways. -/
theorem witness_inv_underflow : StateInv (decodedState (begun (p1.take 17))) :=
  ⟨by decide, by decide, by decide, by decide,
    by decide, by decide, by decide, by decide, by decide, by decide, by decide, by decide⟩
theorem witness_inv_l3Unknown : StateInv (decodedState (begun (p4.take 18))) :=
  ⟨by decide, by decide, by decide, by decide,
    by decide, by decide, by decide, by decide, by decide, by decide, by decide, by decide⟩
theorem witness_inv_arp : StateInv (decodedState (begun (p2.take 42))) :=
  ⟨by decide, by decide, by decide, by decide,
    by decide, by decide, by decide, by decide, by decide, by decide, by decide, by decide⟩
theorem witness_inv_noXport : StateInv (decodedState (begun noXport4)) :=
  ⟨by decide, by decide, by decide, by decide,
    by decide, by decide, by decide, by decide, by decide, by decide, by decide, by decide⟩
theorem witness_inv_tcp : StateInv (decodedState (begun (p1.take 58))) :=
  ⟨by decide, by decide, by decide, by decide,
    by decide, by decide, by decide, by decide, by decide, by decide, by decide, by decide⟩

theorem witness_StepKeepsInv :
    StateInv (begun (p1.take 18)) ∧ ∃ t, step (begun (p1.take 18)) = .next t :=
  ⟨witness_inv_begun, next_of_some (by decide)⟩

theorem witness_StepNeverStops : StateInv (begun (p1.take 18)) := witness_inv_begun

theorem witness_ParserMovesDownward :
    turn (begun p1) = .parser ∧ ∃ t, step (begun p1) = .next t :=
  ⟨by decide, next_of_some (by decide)⟩

/-- The states of `witness_inv_underflow` and the four after it are ended decodes. -/
theorem witness_EndedDecodeOutcomes :
    [decodedState (begun (p1.take 17)), decodedState (begun (p4.take 18)),
      decodedState (begun (p2.take 42)), decodedState (begun noXport4),
      decodedState (begun (p1.take 58))].map (fun s => (s.runState, s.status, s.valid)) =
    [(.done, .underflow, 0), (.done, .l3Unknown, 1), (.done, .ok, 7), (.done, .ok, 3),
      (.done, .ok, 11)] := by decide

theorem witness_StepRunsDecodedOperation :
    (nextSelector (begun p1) = some (.stage .sEth) ∧ decode Config.atReset (.stage .sEth) = .ok .eth ∧
      Instr.wf Config.atReset .eth = true) ∧
    (nextSelector (asks (begun p1) (.readReg 1)) = some (.port (.readReg 1)) ∧
      decode Config.atReset (.port (.readReg 1)) = .ok (.rreg 1)) ∧
    turn ((begun p1).setHost [.reset]) = .reset ∧ turn State.reset = .nobody :=
  ⟨⟨rfl, rfl, rfl⟩, ⟨rfl, rfl⟩, rfl, rfl⟩

/-- Every stage with every class that selects an operation. -/
theorem witness_StageRunsItsOperation :
    ([begun p1, atNet p2 .arp .sArpd].all fun s => s.runState == .busy && s.host == []) = true ∧
    ([L3Class.ipv4, .ipv6, .arp, .unknown].all fun c =>
      let s := atNet p1 c .sNet
      s.runState == .busy && s.host == [] && s.stage == .sNet && s.record.eth.l3Class == c) = true ∧
    ([L4Class.tcp, .udp, .icmp, .icmpv6, .unknown, .arp].all fun c =>
      let s := atXport p1 38 c
      s.runState == .busy && s.host == [] && s.stage == .sXport && s.record.net.l4Class == c) = true := by
  decide

theorem witness_DecodeOfEncode :
    [Instr.eth, .l3dUnknown 0xFFFF#16, .net4, .l4dUnknown 255#8, .xnone, .wfb 65535 0xFF#8,
      .wflen 65535, .rreg 200].all (Instr.wf Config.atReset) = true := by decide

theorem witness_EncodeOfDecode :
    (Selector.l4class 0#3).wf Config.atReset = true ∧ Selector.l4class 0#3 ≠ .l4class 5#3 ∧
    decode Config.atReset (.l4class 0#3) = .ok .xnone ∧
    (Selector.port (.writeReg 4 65535)).wf Config.atReset = true ∧
    decode Config.atReset (.port (.writeReg 4 65535)) = .ok (.wflen 65535) :=
  ⟨by decide, by decide, rfl, by decide, rfl⟩

theorem witness_DecodedIsWellFormed :
    decode Config.atReset (.port (.writeFrame 65537 0#8)) = .ok (.wfb 1 0#8) := rfl

theorem witness_L3dRows :
    0x8100#16 ≠ 0x0800#16 ∧ 0x8100#16 ≠ 0x0806#16 ∧ 0x8100#16 ≠ 0x86DD#16 := by decide

theorem witness_L4dRows : 2#8 ≠ 6#8 ∧ 2#8 ≠ 17#8 ∧ 2#8 ≠ 1#8 ∧ 2#8 ≠ 58#8 := by decide

theorem witness_DispatchRowFrame :
    (∃ t, exec .l3dIpv6 State.reset = .next t) ∧ (∃ t, exec .l4dIcmp6 State.reset = .next t) :=
  ⟨⟨_, rfl⟩, ⟨_, rfl⟩⟩

theorem witness_EthOperation :
    (begun (p1.take 17)).frameLen < 18 ∧
    18 ≤ (begun (p1.take 18)).frameLen ∧
    (begun (p1.take 18)).frameLen ≤ (begun (p1.take 18)).cfg.frameMax := by decide

theorem witness_EthPayloadFollowsHeader :
    ∃ t, exec .eth (begun (p1.take 18)) = .next t ∧ (t.stage == .sNet) = true :=
  next_with _ (by decide)

theorem witness_Net4Operation :
    (atNet (p1.take 37) .ipv4 .sNet).record.eth.pay2Len < 20 ∧
    20 ≤ (atNet (p1.take 38) .ipv4 .sNet).record.eth.pay2Len ∧
    Pay2Inside (atNet (p1.take 38) .ipv4 .sNet) := by decide

theorem witness_Net6Operation :
    (atNet (p3.take 57) .ipv6 .sNet).record.eth.pay2Len < 40 ∧
    40 ≤ (atNet (p3.take 58) .ipv6 .sNet).record.eth.pay2Len ∧
    Pay2Inside (atNet (p3.take 58) .ipv6 .sNet) := by decide

theorem witness_NetarpOperation :
    (atNet (p2.take 37) .arp .sNet).record.eth.pay2Len < 20 ∧
    20 ≤ (atNet (p2.take 38) .arp .sNet).record.eth.pay2Len ∧
    Pay2Inside (atNet (p2.take 38) .arp .sNet) := by decide

theorem witness_ArpdOperation :
    (atNet (p2.take 41) .arp .sArpd).record.eth.pay2Len < 24 ∧
    24 ≤ (atNet (p2.take 42) .arp .sArpd).record.eth.pay2Len ∧
    Pay2Inside (atNet (p2.take 42) .arp .sArpd) := by decide

theorem witness_TcpdOperation :
    (atXport (p1.take 57) 38 .tcp).record.net.pay3Len < 20 ∧
    20 ≤ (atXport (p1.take 58) 38 .tcp).record.net.pay3Len ∧
    Pay3Inside (atXport (p1.take 58) 38 .tcp) := by decide

theorem witness_UdpdOperation :
    (atXport (p3.take 65) 58 .udp).record.net.pay3Len < 8 ∧
    8 ≤ (atXport (p3.take 66) 58 .udp).record.net.pay3Len ∧
    Pay3Inside (atXport (p3.take 66) 58 .udp) := by decide

theorem witness_IcmpdOperation :
    Config.atReset.ok ∧
    (atXport (p6.take 39) 38 .icmp).record.net.pay3Len < Config.atReset.icmpMinLen ∧
    Config.atReset.icmpMinLen ≤ (atXport (p6.take 40) 38 .icmp).record.net.pay3Len ∧
    Pay3Inside (atXport (p6.take 40) 38 .icmp) := by decide

theorem witness_Icmp6dOperation :
    Config.atReset.ok ∧
    (atXport (p8.take 59) 58 .icmpv6).record.net.pay3Len < Config.atReset.icmp6MinLen ∧
    Config.atReset.icmp6MinLen ≤ (atXport (p8.take 60) 58 .icmpv6).record.net.pay3Len ∧
    Pay3Inside (atXport (p8.take 60) 58 .icmpv6) := by decide

theorem witness_FinishEndsDecode :
    (Status.ok = .ok ∨ Status.ok = .l3Unknown) ∧ (Status.l3Unknown = .ok ∨ Status.l3Unknown = .l3Unknown) :=
  ⟨.inl rfl, .inr rfl⟩

/-- EthFrame, NetworkFrame, ArpdFrame, TransportFrame, EndingFrame: a next state by Underflow entry and
one without, for each operation. -/
theorem witness_frames :
    ([(Instr.eth, begun (p1.take 17)), (.eth, begun (p1.take 18)),
      (.net4, atNet (p1.take 37) .ipv4 .sNet), (.net4, atNet (p1.take 38) .ipv4 .sNet),
      (.net6, atNet (p3.take 57) .ipv6 .sNet), (.net6, atNet (p3.take 58) .ipv6 .sNet),
      (.netarp, atNet (p2.take 37) .arp .sNet), (.netarp, atNet (p2.take 38) .arp .sNet),
      (.arpd, atNet (p2.take 41) .arp .sArpd), (.arpd, atNet (p2.take 42) .arp .sArpd),
      (.tcpd, atXport (p1.take 57) 38 .tcp), (.tcpd, atXport (p1.take 58) 38 .tcp),
      (.udpd, atXport (p3.take 65) 58 .udp), (.udpd, atXport (p3.take 66) 58 .udp),
      (.icmpd, atXport (p6.take 39) 38 .icmp), (.icmpd, atXport (p6.take 40) 38 .icmp),
      (.icmp6d, atXport (p8.take 59) 58 .icmpv6), (.icmp6d, atXport (p8.take 60) 58 .icmpv6),
      (.netunk, State.reset), (.xnone, State.reset)].all
      fun c => (nextOf (exec c.1 c.2)).isSome) = true := by decide

theorem witness_StartOperation :
    State.reset.runState ≠ .busy ∧ (decodedState (begun [])).runState ≠ .busy ∧
    (begun []).runState = .busy := by decide

theorem witness_WfbOperation :
    (Instr.wfb 65534 0xFF#8).wf Config.atReset = true ∧
    (Instr.wfb 65535 0xFF#8).wf Config.atReset = true ∧
    State.reset.runState ≠ .busy ∧ 65534 < State.reset.cfg.frameMax ∧
    65535 = State.reset.cfg.frameMax ∧ (begun []).runState = .busy := by decide

theorem witness_WflenOperation :
    (Instr.wflen 65535).wf Config.atReset = true ∧ State.reset.runState ≠ .busy ∧
    (begun []).runState = .busy := by decide

/-- Idle and busy, a register with an unspecified read while BUSY, and the numbers at the table's
edges. -/
theorem witness_RregOperation :
    State.reset.runState ≠ .busy ∧ (begun []).runState = .busy ∧
    regOfNumber 6 = some .valid ∧ regOfNumber 34 = some .icmpCode ∧
    Reg.valid ≠ .ctrl ∧ Reg.valid ≠ .state ∧ Reg.valid ≠ .flen ∧ 34 < 35 := by decide

theorem witness_HostPortFrame :
    ([(Instr.start, State.reset), (.start, begun []), (.cnop, State.reset),
      (.wfb 65534 1#8, State.reset), (.wfb 65535 1#8, State.reset), (.wfb 0 1#8, begun []),
      (.wflen 7, State.reset), (.wflen 7, begun []), (.rreg 4, State.reset), (.rreg 35, begun [])].all
      fun c => (nextOf (exec c.1 c.2)).isSome) = true := by decide

theorem witness_BusyLocksHostWrites :
    (asks (begun p1) (.writeFrame 16 0xFF#8)).runState = .busy ∧
    (asks (begun p1) (.writeFrame 16 0xFF#8)).host = [.port (.writeFrame 16 0xFF#8)] ∧
    (asks (begun p1) (.writeReg 0 1)).host = [.port (.writeReg 0 1)] := ⟨rfl, rfl, rfl⟩

theorem witness_OtherRegisterWritesIgnored :
    (asks State.reset (.writeReg 2 3)).host = [.port (.writeReg 2 3)] ∧ 2 ≠ 0 ∧ 2 ≠ 4 := by decide

theorem witness_CtrlWriteUsesBitZero :
    (asks State.reset (.writeReg 0 3)).host = [.port (.writeReg 0 3)] ∧ 3 % 2 = 1 ∧
    (asks State.reset (.writeReg 0 2)).host = [.port (.writeReg 0 2)] ∧ 2 % 2 = 0 := by decide

/-- An operation that does change the byte, FLEN, the read port, FRAME_LEN. -/
theorem witness_WhoWritesWhat :
    (∃ t, exec (.wfb 0 1#8) (loaded [0#8]) = .next t ∧ (fbByte t 0 != fbByte (loaded [0#8]) 0) = true) ∧
    (∃ t, exec (.wflen 9) State.reset = .next t ∧ (t.flen != 0) = true) ∧
    (∃ t, exec (.rreg 4) (loaded p1) = .next t ∧ (t.readData != 0) = true) ∧
    (∃ t, exec .start (loaded p1) = .next t ∧ (t.frameLen != 0) = true) :=
  ⟨next_with _ (by decide), next_with _ (by decide), next_with _ (by decide),
    next_with _ (by decide)⟩

theorem witness_inv_before4 : StateInv (after 2 (begun noXport4)) :=
  ⟨by decide, by decide, by decide, by decide,
    by decide, by decide, by decide, by decide, by decide, by decide, by decide, by decide⟩
theorem witness_inv_before6 : StateInv (after 2 (begun noXport6)) :=
  ⟨by decide, by decide, by decide, by decide,
    by decide, by decide, by decide, by decide, by decide, by decide, by decide, by decide⟩
/-- With `witness_inv_before4` and `witness_inv_before6`: the step that ends with OK, on both paths. -/
theorem witness_RecordShapeAfterOk :
    (∃ t, step (after 2 (begun noXport4)) = .next t ∧
      (t.status == .ok && t.record.eth.l3Class == .ipv4) = true) ∧
    (∃ t, step (after 2 (begun noXport6)) = .next t ∧
      (t.status == .ok && t.record.eth.l3Class == .ipv6) = true) :=
  ⟨next_with _ (by decide), next_with _ (by decide)⟩

/-- The states are those of `witness_inv_reset`, `witness_inv_l3Unknown`, `witness_inv_noXport` and
`witness_inv_tcp`: no bit of VALID set, one, two, and V_L4. -/
theorem witness_ValidBits :
    [State.reset, decodedState (begun (p4.take 18)), decodedState (begun noXport4),
      decodedState (begun (p1.take 58))].map (fun s => (s.runState == .busy, s.valid)) =
    [(false, 0), (false, 1), (false, 3), (false, 11)] := by decide

theorem witness_RegistersFitTheirWidths :
    StateInv (decodedState (begun (p1.take 58))) ∧ regOfNumber 34 = some .icmpCode :=
  ⟨witness_inv_tcp, by decide⟩

theorem witness_MemReadIsBigEndian :
    16 + 2 ≤ (begun (p1.take 18)).frameLen ∧
    (begun (p1.take 18)).frameLen ≤ (begun (p1.take 18)).cfg.frameMax ∧
    (begun (p1.take 17)).frameLen < 16 + 2 := by decide

theorem witness_BufferIsCanonical :
    Memory.wf (buffer 0 [1#8, 2#8]) = true ∧ Memory.wf (Memory.set [(1, 2#8)] 0 1#8) = true ∧
    Memory.set [(1, 2#8)] 0 1#8 = buffer 0 [1#8, 2#8] := by decide

theorem witness_StagesComputeWholeDecode : DecodeBegins (begun p1) := by decide

theorem witness_EveryDecodeEnds :
    StateInv (after 2 (begun noXport4)) ∧ (after 2 (begun noXport4)).runState = .busy ∧
    (after 2 (begun noXport4)).host = [] :=
  ⟨witness_inv_before4, by decide, by decide⟩

/-- Two machines with the same frame, one with bytes beyond it and an old result. -/
theorem witness_ResultDependsOnFrameOnly :
    let s := asks (loaded (p1.take 18)) (.writeReg 0 1)
    let s' := asks { decodedState (begun p1) with flen := 18 } (.writeReg 0 1)
    StartPending s ∧ StartPending s' ∧ s'.cfg = s.cfg ∧ s'.flen = s.flen ∧
    ((List.range 18).all fun i => fbByte s' i == fbByte s i) = true := by decide

theorem witness_RepeatedDecodeIsIdentical :
    StartPending (asks (loaded p1) (.writeReg 0 1)) ∧
    ∃ t, runSteps 5 (asks (loaded p1) (.writeReg 0 1)) = .next t :=
  ⟨by decide, next_of_some (by decide)⟩

theorem witness_UnderflowByFrameLength : DecodeBegins (begun (p1.take 17)) := by decide

theorem witness_MacTextInjective :
    macText 0x010203040506#48 = macText 0x010203040506#48 := rfl
end Sys2Proof.Machine.Tests
end

section
/-! The frame buffer (`00` R12, `20` R72): what a MemRead answers, and each byte of its value. -/

namespace Sys2Proof.Machine

/-! The bytes of a big-endian value -/

/-- Every byte below the first is a digit of the value of the remaining bytes: the first byte weighs
a multiple of 256 against it. -/
theorem beValue_cons_shift (b : Byte) {bs : List Byte} {j : Nat} (h : j < bs.length) :
    beValue (b :: bs) / 256 ^ j % 256 = beValue bs / 256 ^ j % 256 := by
  obtain ⟨d, hd⟩ : ∃ d, bs.length = j + (d + 1) := ⟨bs.length - j - 1, by omega⟩
  calc beValue (b :: bs) / 256 ^ j % 256
      = (256 ^ j * (256 * (256 ^ d * b.toNat)) + beValue bs) / 256 ^ j % 256 := by
        rw [beValue, hd]; ring_nf
    _ = (256 * (256 ^ d * b.toNat) + beValue bs / 256 ^ j) % 256 := by
        rw [Nat.mul_add_div (by positivity)]
    _ = beValue bs / 256 ^ j % 256 := Nat.mul_add_mod _ _ _

/-- The first byte of the list is the most significant. -/
theorem beValue_cons_top (b : Byte) (bs : List Byte) :
    beValue (b :: bs) / 256 ^ bs.length = b.toNat := by
  rw [beValue, Nat.mul_add_div (by positivity), Nat.div_eq_of_lt (beValue_lt bs), Nat.add_zero]

theorem beValue_digit {bs : List Byte} {k : Nat} (h : k < bs.length) :
    beValue bs / 256 ^ (bs.length - 1 - k) % 256 = bs[k].toNat := by
  induction bs generalizing k with
  | nil => simp at h
  | cons b bs ih =>
    cases k with
    | zero =>
      have hb : b.toNat < 256 := b.isLt
      simpa [beValue_cons_top] using hb
    | succ k =>
      have hk : k < bs.length := by simpa using h
      have hidx : (b :: bs).length - 1 - (k + 1) = bs.length - 1 - k := by
        rw [List.length_cons]; omega
      rw [hidx, beValue_cons_shift b (by omega), ih hk, List.getElem_cons_succ]

/-! The bytes of a field -/

theorem frameBytes_getElem (s : State) {a n k : Nat} (h : k < (frameBytes s a n).length) :
    (frameBytes s a n)[k] = fbByte s (a + k) := by
  induction n generalizing a k with
  | zero => simp [frameBytes] at h
  | succ n ih =>
    cases k with
    | zero => simp [frameBytes]
    | succ k => simp [frameBytes, ih, Nat.add_assoc, Nat.add_comm 1 k]

/-- Byte `k` from the top of a field is the frame byte at its index `k`. -/
theorem field_digit (s : State) (a : Nat) {n k : Nat} (h : k < n) :
    field s a n / 256 ^ (n - 1 - k) % 256 = (fbByte s (a + k)).toNat := by
  have hk : k < (frameBytes s a n).length := by rwa [frameBytes_length]
  have hd := beValue_digit hk
  rwa [frameBytes_getElem s hk, frameBytes_length] at hd

/-! What a MemRead answers -/

theorem memRead_inside {s : State} {a n : Nat} (hf : a + n ≤ s.frameLen)
    (hb : s.frameLen ≤ s.cfg.frameMax) : memRead s a n = .ok (field s a n) := by
  rw [memRead, if_neg (by omega), if_neg (by omega)]

theorem memRead_beyondFrame {s : State} {a n : Nat} (h : s.frameLen < a + n) :
    memRead s a n = .error (.readBeyondFrame a n) :=
  if_pos h

theorem two_pow_eight_mul (n : Nat) : 2 ^ (8 * n) = 256 ^ n := by
  rw [pow_mul]; rfl

/-- Settles O52: inside the frame the value is `field`, whose digits to the base 256 are the frame
bytes (`field_digit`). -/
theorem memReadIsBigEndian : Obligations.MemReadIsBigEndian := by
  intro s a n
  refine ⟨fun hf hb => ⟨field s a n, memRead_inside hf hb, ?_, fun k hk => ?_⟩, memRead_beyondFrame⟩
  · rw [two_pow_eight_mul]; exact field_lt s a n
  · rw [two_pow_eight_mul]; exact field_digit s a hk

end Sys2Proof.Machine
end

section
/-! SUPPORT. What each operation of the parser can do (`40`, `42` to `46`): Underflow entry with its own
code, or the registers it writes and the stage it leaves. -/

namespace Sys2Proof.Machine

/-! The registers an operation writes -/

/-- Registers 15 to 19 as a network operation writes them: the addresses, the class, and a payload
view that starts `n` bytes into the layer-2 one. -/
def netRegs (s : State) (src dst : Slice) (cls : L4Class) (n : Nat) : NetRegs where
  srcAddr := BitVec.ofNat 128 (readBy (field s) s.record.eth.pay2Off src)
  dstAddr := BitVec.ofNat 128 (readBy (field s) s.record.eth.pay2Off dst)
  l4Class := cls
  pay3Off := s.record.eth.pay2Off + n
  pay3Len := s.record.eth.pay2Len - n

/-- The class of the protocol or next-header byte at `f` of the layer-2 view. -/
def protoClass (s : State) (f : Slice) : L4Class :=
  l4d s.cfg (BitVec.ofNat 8 (readBy (field s) s.record.eth.pay2Off f))

/-- Registers 15 to 19 as NET4 writes them (`42` R161). -/
def net4Regs (s : State) : NetRegs :=
  netRegs s s.cfg.ipv4OffSrc s.cfg.ipv4OffDst (protoClass s s.cfg.ipv4OffProto) s.cfg.ipv4MinLen

/-- Registers 15 to 19 as NET6 writes them (`42` R162). -/
def net6Regs (s : State) : NetRegs :=
  netRegs s s.cfg.ipv6OffSrc s.cfg.ipv6OffDst (protoClass s s.cfg.ipv6OffNh) s.cfg.ipv6MinLen

/-- Registers 15 to 19 as NETARP writes them (`42` R163). -/
def netarpRegs (s : State) : NetRegs :=
  netRegs s s.cfg.arpnetOffSrc s.cfg.arpnetOffDst .arp s.cfg.arpnetConsumed

/-- Registers 20 to 22 as ARPD writes them (`44` R190). -/
def arpdRegs (s : State) : ArpRegs where
  opcode := BitVec.ofNat 16 (readBy (field s) s.record.eth.pay2Off s.cfg.arpOffOpcode)
  smac := BitVec.ofNat 48 (readBy (field s) s.record.eth.pay2Off s.cfg.arpOffSmac)
  tmac := BitVec.ofNat 48 (readBy (field s) s.record.eth.pay2Off s.cfg.arpOffTmac)

/-- Registers 23 to 28 as TCPD writes them (`45` R201). -/
def tcpdRegs (s : State) : TcpRegs where
  sport := BitVec.ofNat 16 (readBy (field s) s.record.net.pay3Off s.cfg.tcpOffSport)
  dport := BitVec.ofNat 16 (readBy (field s) s.record.net.pay3Off s.cfg.tcpOffDport)
  seq := BitVec.ofNat 32 (readBy (field s) s.record.net.pay3Off s.cfg.tcpOffSeq)
  ack := BitVec.ofNat 32 (readBy (field s) s.record.net.pay3Off s.cfg.tcpOffAck)
  flags := BitVec.ofNat 8 (readBy (field s) s.record.net.pay3Off s.cfg.tcpOffFlags)
  window := BitVec.ofNat 16 (readBy (field s) s.record.net.pay3Off s.cfg.tcpOffWindow)

/-- Registers 29 to 32 as UDPD writes them (`45` R202). -/
def udpdRegs (s : State) : UdpRegs where
  sport := BitVec.ofNat 16 (readBy (field s) s.record.net.pay3Off s.cfg.udpOffSport)
  dport := BitVec.ofNat 16 (readBy (field s) s.record.net.pay3Off s.cfg.udpOffDport)
  len := BitVec.ofNat 16 (readBy (field s) s.record.net.pay3Off s.cfg.udpOffLen)
  csum := BitVec.ofNat 16 (readBy (field s) s.record.net.pay3Off s.cfg.udpOffCsum)

/-- Registers 33 and 34 as ICMPD and ICMP6D write them (`46` R222). -/
def icmpdRegs (s : State) : IcmpRegs where
  type := BitVec.ofNat 8 (readBy (field s) s.record.net.pay3Off s.cfg.icmpOffType)
  code := BitVec.ofNat 8 (readBy (field s) s.record.net.pay3Off s.cfg.icmpOffCode)

/-! What an operation that answers has done -/

/-- An operation that tests `len` against `least` answered `t`: by Underflow entry with code `e`, or, the
bytes being there, with the state `done`. -/
abbrev Answers (len least : Nat) (e : ErrStage) (s done t : State) : Prop :=
  (len < least ∧ t = enterUnderflow e s) ∨ (least ≤ len ∧ t = done)

/-- A field that was read without a fault had the value of its bytes. -/
theorem readField_value {s t : State} {base : Nat} {f : Slice} {k : Nat → Result}
    (h : readField s base f k = .next t) : k (readBy (field s) base f) = .next t := by
  obtain ⟨-, -, hk⟩ := readField_next h
  exact hk

/-- An operation is its length test and then, where it answers, its writes. -/
theorem requireLen_answers {len least : Nat} {e : ErrStage} {s done t : State} {k : Result}
    (hk : k = .next t → (.next done : Result) = .next t) (h : requireLen len least e s k = .next t) :
    Answers len least e s done t := by
  rcases requireLen_next h with hu | ⟨hl, h⟩
  · exact .inl hu
  · cases hk h
    exact .inr ⟨hl, rfl⟩

theorem execEth_answers {s t : State} (h : exec .eth s = .next t) :
    Answers s.frameLen 18 .eth s
      ((s.setEth (wholeEth s.cfg s.frameLen (field s))).setStage .sNet) t :=
  requireLen_answers (fun h =>
    readField_value <| readField_value <| readField_value <| readField_value h) h

theorem execNet4_answers {s t : State} (h : exec .net4 s = .next t) :
    Answers s.record.eth.pay2Len 20 .net4 s ((s.setNet (net4Regs s)).setStage .sXport) t :=
  requireLen_answers (fun h => readField_value <| readField_value <| readField_value h) h

theorem execNet6_answers {s t : State} (h : exec .net6 s = .next t) :
    Answers s.record.eth.pay2Len 40 .net6 s ((s.setNet (net6Regs s)).setStage .sXport) t :=
  requireLen_answers (fun h => readField_value <| readField_value <| readField_value h) h

theorem execNetarp_answers {s t : State} (h : exec .netarp s = .next t) :
    Answers s.record.eth.pay2Len 20 .netarp s ((s.setNet (netarpRegs s)).setStage .sArpd) t :=
  requireLen_answers (fun h => readField_value <| readField_value h) h

theorem execArpd_answers {s t : State} (h : exec .arpd s = .next t) :
    Answers s.record.eth.pay2Len 24 .arpd s ((s.setArp (arpdRegs s)).setStage .sXport) t :=
  requireLen_answers (fun h => readField_value <| readField_value <| readField_value h) h

theorem execTcpd_answers {s t : State} (h : exec .tcpd s = .next t) :
    Answers s.record.net.pay3Len 20 .tcpd s (finish .ok (s.setTcp (tcpdRegs s))) t :=
  requireLen_answers (fun h =>
    readField_value <| readField_value <| readField_value <| readField_value <|
      readField_value <| readField_value h) h

theorem execUdpd_answers {s t : State} (h : exec .udpd s = .next t) :
    Answers s.record.net.pay3Len 8 .udpd s (finish .ok (s.setUdp (udpdRegs s))) t :=
  requireLen_answers (fun h =>
    readField_value <| readField_value <| readField_value <| readField_value h) h

theorem execIcmpd_answers {s t : State} (h : exec .icmpd s = .next t) :
    Answers s.record.net.pay3Len s.cfg.icmpMinLen .icmpd s
      (finish .ok (s.setIcmp (icmpdRegs s))) t :=
  requireLen_answers (fun h => readField_value <| readField_value h) h

theorem execIcmp6d_answers {s t : State} (h : exec .icmp6d s = .next t) :
    Answers s.record.net.pay3Len s.cfg.icmp6MinLen .icmp6d s
      (finish .ok (s.setIcmp (icmpdRegs s))) t :=
  requireLen_answers (fun h => readField_value <| readField_value h) h

end Sys2Proof.Machine
end

section
/-! The frames (`10` R49): what each operation of the parser and of the host leaves unchanged. -/

namespace Sys2Proof.Machine

/-! Ending a decode -/

/-- A byte of FB reads as before where FB and the count of resets are as before. -/
theorem SameOutside.sameBytes {s t : State} (h : SameOutside s t) : SameBytes s t := by
  obtain ⟨-, hfb, -, -, -, -, -, hresets⟩ := h
  exact fbByte_congr hfb hresets

theorem SameOutside.cfg_eq {s t : State} (h : SameOutside s t) : t.cfg = s.cfg := by
  obtain ⟨hcfg, -⟩ := h
  exact hcfg

theorem SameOutside.trans {s t u : State} (h : SameOutside s t) (h' : SameOutside t u) :
    SameOutside s u := by
  obtain ⟨hcfg, hfb, hflen, hframe, hhost, hread, hdraws, hresets⟩ := h
  obtain ⟨hcfg', hfb', hflen', hframe', hhost', hread', hdraws', hresets'⟩ := h'
  exact ⟨hcfg'.trans hcfg, hfb'.trans hfb, hflen'.trans hflen, hframe'.trans hframe,
    hhost'.trans hhost, hread'.trans hread, hdraws'.trans hdraws, hresets'.trans hresets⟩

theorem setEth_sameOutside (s : State) (r : EthRegs) : SameOutside s (s.setEth r) :=
  ⟨rfl, rfl, rfl, rfl, rfl, rfl, rfl, rfl⟩

theorem setNet_sameOutside (s : State) (r : NetRegs) : SameOutside s (s.setNet r) :=
  ⟨rfl, rfl, rfl, rfl, rfl, rfl, rfl, rfl⟩

theorem setArp_sameOutside (s : State) (r : ArpRegs) : SameOutside s (s.setArp r) :=
  ⟨rfl, rfl, rfl, rfl, rfl, rfl, rfl, rfl⟩

theorem setTcp_sameOutside (s : State) (r : TcpRegs) : SameOutside s (s.setTcp r) :=
  ⟨rfl, rfl, rfl, rfl, rfl, rfl, rfl, rfl⟩

theorem setUdp_sameOutside (s : State) (r : UdpRegs) : SameOutside s (s.setUdp r) :=
  ⟨rfl, rfl, rfl, rfl, rfl, rfl, rfl, rfl⟩

theorem setIcmp_sameOutside (s : State) (r : IcmpRegs) : SameOutside s (s.setIcmp r) :=
  ⟨rfl, rfl, rfl, rfl, rfl, rfl, rfl, rfl⟩

theorem setStage_sameOutside (s : State) (st : Stage) : SameOutside s (s.setStage st) :=
  ⟨rfl, rfl, rfl, rfl, rfl, rfl, rfl, rfl⟩

theorem finish_sameOutside (code : Status) (s : State) : SameOutside s (finish code s) :=
  ⟨rfl, rfl, rfl, rfl, rfl, rfl, rfl, rfl⟩

theorem enterUnderflow_sameOutside (e : ErrStage) (s : State) : SameOutside s (enterUnderflow e s) :=
  ⟨rfl, rfl, rfl, rfl, rfl, rfl, rfl, rfl⟩

theorem enterUnderflow_entry (e : ErrStage) (s : State) : UnderflowEntry e s (enterUnderflow e s) :=
  ⟨rfl, rfl, rfl, rfl, rfl, enterUnderflow_sameOutside e s⟩

theorem FinishEntry.sameOutside {code : Status} {s t : State} (h : FinishEntry code s t) :
    SameOutside s t := by
  obtain ⟨-, -, -, -, hout⟩ := h
  exact hout

/-- The frame of an operation that answers: Underflow entry, or what holds of the state it writes (`Q`),
and in both cases no byte of FB changes. -/
theorem Answers.frame {len least : Nat} {e : ErrStage} {s done t : State} {Q : Prop}
    (h : Answers len least e s done t) (hout : Q → SameOutside s t) (hQ : t = done → Q) :
    SameBytes s t ∧ (UnderflowEntry e s t ∨ Q) := by
  rcases h with ⟨-, ht⟩ | ⟨-, ht⟩
  · subst ht
    exact ⟨(enterUnderflow_sameOutside e s).sameBytes, .inl (enterUnderflow_entry e s)⟩
  · exact ⟨(hout (hQ ht)).sameBytes, .inr (hQ ht)⟩

/-! The operations of the parser -/

/-- What ETH writes: registers 8 to 14 and STAGE. -/
theorem setEth_frame {s t : State} {r : EthRegs} {st : Stage}
    (h : t = (s.setEth r).setStage st) :
    SameOutside s t ∧ SameRun s t ∧ t.stage = st ∧ t.record.net = s.record.net ∧
      t.record.arp = s.record.arp ∧ t.record.tcp = s.record.tcp ∧ t.record.udp = s.record.udp ∧
      t.record.icmp = s.record.icmp := by
  subst h
  exact ⟨(setEth_sameOutside s r).trans (setStage_sameOutside _ st), ⟨rfl, rfl, rfl⟩, rfl, rfl, rfl,
    rfl, rfl, rfl⟩

/-- What a network operation writes: registers 15 to 19 and STAGE. -/
theorem setNet_frame {s t : State} {r : NetRegs} {st : Stage}
    (h : t = (s.setNet r).setStage st) :
    SameOutside s t ∧ SameRun s t ∧ t.stage = st ∧ t.record.eth = s.record.eth ∧
      t.record.arp = s.record.arp ∧ t.record.tcp = s.record.tcp ∧ t.record.udp = s.record.udp ∧
      t.record.icmp = s.record.icmp := by
  subst h
  exact ⟨(setNet_sameOutside s r).trans (setStage_sameOutside _ st), ⟨rfl, rfl, rfl⟩, rfl, rfl, rfl,
    rfl, rfl, rfl⟩

/-- What ARPD writes: registers 20 to 22 and STAGE. -/
theorem setArp_frame {s t : State} {r : ArpRegs} {st : Stage}
    (h : t = (s.setArp r).setStage st) :
    SameOutside s t ∧ SameRun s t ∧ t.stage = st ∧ t.record.eth = s.record.eth ∧
      t.record.net = s.record.net ∧ t.record.tcp = s.record.tcp ∧ t.record.udp = s.record.udp ∧
      t.record.icmp = s.record.icmp := by
  subst h
  exact ⟨(setArp_sameOutside s r).trans (setStage_sameOutside _ st), ⟨rfl, rfl, rfl⟩, rfl, rfl, rfl,
    rfl, rfl, rfl⟩

/-- What a transport operation leaves of `s` when it ends the decode from `u`, in which its own group
is written. -/
theorem finish_frame {s u t : State} (hout : SameOutside s u) (herr : u.errStage = s.errStage)
    (h : t = finish .ok u) : FinishEntry .ok s t ∧ t.record = u.record := by
  subst h
  exact ⟨⟨rfl, herr, rfl, rfl, hout.trans (finish_sameOutside .ok u)⟩, rfl⟩

theorem finish_setTcp_frame {s t : State} {r : TcpRegs} (h : t = finish .ok (s.setTcp r)) :
    FinishEntry .ok s t ∧ { t.record with tcp := s.record.tcp } = s.record := by
  obtain ⟨hfin, hrec⟩ := finish_frame (setTcp_sameOutside s r) rfl h
  exact ⟨hfin, by rw [hrec]; rfl⟩

theorem finish_setUdp_frame {s t : State} {r : UdpRegs} (h : t = finish .ok (s.setUdp r)) :
    FinishEntry .ok s t ∧ { t.record with udp := s.record.udp } = s.record := by
  obtain ⟨hfin, hrec⟩ := finish_frame (setUdp_sameOutside s r) rfl h
  exact ⟨hfin, by rw [hrec]; rfl⟩

theorem finish_setIcmp_frame {s t : State} {r : IcmpRegs} (h : t = finish .ok (s.setIcmp r)) :
    FinishEntry .ok s t ∧ { t.record with icmp := s.record.icmp } = s.record := by
  obtain ⟨hfin, hrec⟩ := finish_frame (setIcmp_sameOutside s r) rfl h
  exact ⟨hfin, by rw [hrec]; rfl⟩

/-- Settles O34: ETH writes its own group and STAGE. -/
theorem ethFrame : Obligations.EthFrame := fun _ _ h =>
  (execEth_answers h).frame And.left setEth_frame

/-- Settles O35: the three network operations differ in the values they write, not in where. -/
theorem networkFrame : Obligations.NetworkFrame := by
  intro s t i e next hi h
  simp only [List.mem_cons, Prod.mk.injEq, List.not_mem_nil, or_false] at hi
  rcases hi with ⟨rfl, rfl, rfl⟩ | ⟨rfl, rfl, rfl⟩ | ⟨rfl, rfl, rfl⟩
  · exact (execNet4_answers h).frame And.left setNet_frame
  · exact (execNet6_answers h).frame And.left setNet_frame
  · exact (execNetarp_answers h).frame And.left setNet_frame

/-- Settles O36: ARPD writes its own group and STAGE. -/
theorem arpdFrame : Obligations.ArpdFrame := fun _ _ h =>
  (execArpd_answers h).frame And.left setArp_frame

/-- Settles O37: a transport operation that does not underflow ends the decode and writes its own
group. -/
theorem transportFrame : Obligations.TransportFrame := fun _ _ =>
  ⟨fun h => (execTcpd_answers h).frame (fun ⟨hfin, _⟩ => hfin.sameOutside) finish_setTcp_frame,
    fun h => (execUdpd_answers h).frame (fun ⟨hfin, _⟩ => hfin.sameOutside) finish_setUdp_frame,
    fun h => (execIcmpd_answers h).frame (fun ⟨hfin, _⟩ => hfin.sameOutside) finish_setIcmp_frame,
    fun h => (execIcmp6d_answers h).frame (fun ⟨hfin, _⟩ => hfin.sameOutside) finish_setIcmp_frame⟩

/-- NETUNK and XNONE end the decode with a code of their own and write no register of the record. -/
theorem ending_finish {s t : State} {i : Instr} (hi : i ∈ [Instr.netunk, .xnone])
    (h : exec i s = .next t) : ∃ code, t = finish code s := by
  simp only [List.mem_cons, List.not_mem_nil, or_false] at hi
  rcases hi with rfl | rfl
  · cases h
    exact ⟨.l3Unknown, rfl⟩
  · cases h
    exact ⟨.ok, rfl⟩

/-- Settles O38: the decode ends with a code, and no register of the record is written. -/
theorem endingFrame : Obligations.EndingFrame := by
  intro s t i hi h
  obtain ⟨code, rfl⟩ := ending_finish hi h
  exact ⟨finish_sameOutside code s, (finish_sameOutside code s).sameBytes, rfl, rfl⟩

/-- A row of L3D run alone writes some class into L3_CLASS. -/
theorem l3d_row_setL3 {s t : State} {i : Instr} {e : BitVec 16}
    (hi : i ∈ [Instr.l3dIpv4, .l3dArp, .l3dIpv6, .l3dUnknown e]) (h : exec i s = .next t) :
    ∃ c, t = s.setL3 c := by
  simp only [List.mem_cons, List.not_mem_nil, or_false] at hi
  rcases hi with rfl | rfl | rfl | rfl <;> cases h <;> exact ⟨_, rfl⟩

/-- A row of L4D run alone writes some class into L4_CLASS. -/
theorem l4d_row_setL4 {s t : State} {i : Instr} {p : BitVec 8}
    (hi : i ∈ [Instr.l4dTcp, .l4dUdp, .l4dIcmp, .l4dIcmp6, .l4dUnknown p])
    (h : exec i s = .next t) : ∃ c, t = s.setL4 c := by
  simp only [List.mem_cons, List.not_mem_nil, or_false] at hi
  rcases hi with rfl | rfl | rfl | rfl | rfl <;> cases h <;> exact ⟨_, rfl⟩

/-- Settles O19: a row stores its class and nothing else. -/
theorem dispatchRowFrame : Obligations.DispatchRowFrame := by
  intro s t i e p h
  refine ⟨fun hi => ?_, fun hi => ?_⟩
  · obtain ⟨c, rfl⟩ := l3d_row_setL3 hi h
    have hout : SameOutside s (s.setL3 c) := setEth_sameOutside s _
    exact ⟨hout, hout.sameBytes, ⟨rfl, rfl, rfl⟩, rfl, rfl, rfl, rfl, rfl, rfl, rfl⟩
  · obtain ⟨c, rfl⟩ := l4d_row_setL4 hi h
    have hout : SameOutside s (s.setL4 c) := setNet_sameOutside s _
    exact ⟨hout, hout.sameBytes, ⟨rfl, rfl, rfl⟩, rfl, rfl, rfl, rfl, rfl, rfl, rfl⟩

/-! The host's operations -/

theorem memWrite_byte_other (s : State) {i j : Nat} (b : Byte) (h : j ≠ i) :
    fbByte (memWrite s i b) j = fbByte s j := by
  rcases memWrite_cases s i b with ⟨-, hw⟩ | ⟨-, hw⟩
  · rw [hw, fbByte, State.setFb_fb, Memory.get?_set_other s.fb b h]
    rfl
  · rw [hw]

theorem memWrite_outside {s : State} {i : Nat} (b : Byte) (h : s.cfg.frameMax ≤ i) :
    memWrite s i b = s := by
  rw [memWrite, if_neg (by omega)]

/-- A write of one byte leaves all but FB. -/
theorem memWrite_frame (s : State) (i : Nat) (b : Byte) :
    ∃ m, memWrite s i b = s.setFb m := by
  rcases memWrite_cases s i b with ⟨-, hw⟩ | ⟨-, hw⟩
  · exact ⟨_, hw⟩
  · exact ⟨s.fb, hw⟩

theorem sameParser_refl (s : State) : SameParser s s := ⟨rfl, ⟨rfl, rfl, rfl⟩, rfl, rfl, rfl, rfl, rfl⟩

/-- START leaves FB, FLEN, the configuration and what stands outside the block. -/
theorem start_frame {s t : State} (h : exec .start s = .next t) :
    t.cfg = s.cfg ∧ t.fb = s.fb ∧ SameBytes s t ∧ t.flen = s.flen ∧ t.host = s.host ∧
      t.readData = s.readData ∧ t.draws = s.draws ∧ t.resets = s.resets := by
  cases h
  rcases unlessBusy_cases s s.beginDecode with ⟨-, hu⟩ | ⟨-, hu⟩
  · rw [hu]
    exact ⟨rfl, rfl, fun _ => rfl, rfl, rfl, rfl, rfl, rfl⟩
  · rw [hu]
    exact ⟨rfl, rfl, fbByte_congr rfl rfl, rfl, rfl, rfl, rfl, rfl⟩

/-- WFB writes FB alone: at most the byte at its index, and none while BUSY or outside FB. -/
theorem wfb_frame {s t : State} {a : Nat} {b : Byte} (h : exec (.wfb a b) s = .next t) :
    (∃ m, t = s.setFb m) ∧ (∀ j, j ≠ a → fbByte t j = fbByte s j) ∧
      (s.runState = .busy ∨ s.cfg.frameMax ≤ a → SameBytes s t) := by
  cases h
  rcases unlessBusy_cases s (memWrite s a b) with ⟨-, hu⟩ | ⟨hfree, hu⟩
  · rw [hu]
    exact ⟨⟨s.fb, rfl⟩, fun _ _ => rfl, fun _ _ => rfl⟩
  · rw [hu]
    refine ⟨memWrite_frame s a b, fun j hj => memWrite_byte_other s b hj, ?_⟩
    rintro (hbusy | hout)
    · exact absurd hbusy hfree
    · rw [memWrite_outside b hout]
      exact fun _ => rfl

/-- WFLEN writes FLEN alone. -/
theorem wflen_frame {s t : State} {n : Nat} (h : exec (.wflen n) s = .next t) :
    ∃ m, t = s.setFlen m := by
  cases h
  rcases unlessBusy_cases s (s.setFlen n) with ⟨-, hu⟩ | ⟨-, hu⟩
  · exact ⟨s.flen, hu⟩
  · exact ⟨n, hu⟩

/-- RREG changes nothing of the block. -/
theorem rreg_frame {s t : State} {k : Nat} (h : exec (.rreg k) s = .next t) :
    SameParser s t ∧ t.fb = s.fb ∧ SameBytes s t ∧ t.flen = s.flen := by
  cases h
  obtain ⟨v, hv | hv⟩ := readRegister_cases s k
  · rw [hv]
    exact ⟨sameParser_refl s, rfl, fbByte_congr rfl rfl, rfl⟩
  · rw [hv]
    exact ⟨sameParser_refl s, rfl, fbByte_congr rfl rfl, rfl⟩

/-- Settles O44: the five frames together. -/
theorem hostPortFrame : Obligations.HostPortFrame := by
  intro s t a b n k
  refine ⟨start_frame, fun h => ?_, fun h => ?_, fun h => ?_, rreg_frame⟩
  · cases h
    rfl
  · obtain ⟨⟨m, rfl⟩, hother, hlocked⟩ := wfb_frame h
    exact ⟨sameParser_refl s, rfl, rfl, rfl, hother, hlocked⟩
  · obtain ⟨m, rfl⟩ := wflen_frame h
    exact ⟨sameParser_refl s, rfl, fbByte_congr rfl rfl, rfl, rfl⟩

end Sys2Proof.Machine
end

section
/-! The step: which operation it runs, what an operation can do to the fields beside the record, and the
claims of `10` R24 and R49 that follow. -/

namespace Sys2Proof.Machine

/-! Who writes what -/

/-- What an operation can do to the fields beside the record registers. Each operation of the parser keeps
what lies outside the parser and does not leave a decode for IDLE; each of the host's operations is
named with what it may write. -/
inductive Effect (s t : State) : Instr → Prop
  | parser {i : Instr} (hout : SameOutside s t) (hrun : t.runState = .idle → s.runState = .idle) :
    Effect s t i
  | start (ht : t = unlessBusy s s.beginDecode) : Effect s t .start
  | wfb {a : Nat} {b : Byte} (hfb : ∃ m, t = s.setFb m)
    (hother : ∀ j, j ≠ a → fbByte t j = fbByte s j) : Effect s t (.wfb a b)
  | wflen {n : Nat} (ht : ∃ m, t = s.setFlen m) : Effect s t (.wflen n)
  | rreg {k : Nat} (hpar : SameParser s t) (hfb : t.fb = s.fb) (hflen : t.flen = s.flen) :
    Effect s t (.rreg k)

/-- An operation that goes on to the next stage leaves the status registers. -/
theorem Answers.effect {len least : Nat} {e : ErrStage} {s done t : State} {i : Instr} {Q : Prop}
    (h : Answers len least e s done t) (hdone : t = done → SameOutside s t ∧ SameRun s t ∧ Q) :
    Effect s t i := by
  rcases h with ⟨-, ht⟩ | ⟨-, ht⟩
  · subst ht
    exact .parser (enterUnderflow_sameOutside e s) nofun
  · obtain ⟨hout, ⟨hrun, -, -⟩, -⟩ := hdone ht
    exact .parser hout fun hidle => hrun ▸ hidle

/-- A transport operation ends the decode. -/
theorem Answers.finish_effect {len least : Nat} {e : ErrStage} {s u t : State} {i : Instr}
    (h : Answers len least e s (finish .ok u) t) (hout : SameOutside s u) : Effect s t i := by
  rcases h with ⟨-, ht⟩ | ⟨-, ht⟩
  · subst ht
    exact .parser (enterUnderflow_sameOutside e s) nofun
  · subst ht
    exact .parser (hout.trans (finish_sameOutside .ok u)) nofun

/-- Every operation, by its constructor. -/
theorem exec_effect {s t : State} {i : Instr} (h : exec i s = .next t) : Effect s t i := by
  cases i with
  | eth => exact (execEth_answers h).effect setEth_frame
  | net4 => exact (execNet4_answers h).effect setNet_frame
  | net6 => exact (execNet6_answers h).effect setNet_frame
  | netarp => exact (execNetarp_answers h).effect setNet_frame
  | arpd => exact (execArpd_answers h).effect setArp_frame
  | tcpd => exact (execTcpd_answers h).finish_effect (setTcp_sameOutside s _)
  | udpd => exact (execUdpd_answers h).finish_effect (setUdp_sameOutside s _)
  | icmpd => exact (execIcmpd_answers h).finish_effect (setIcmp_sameOutside s _)
  | icmp6d => exact (execIcmp6d_answers h).finish_effect (setIcmp_sameOutside s _)
  | netunk => cases h; exact .parser (finish_sameOutside _ s) nofun
  | xnone => cases h; exact .parser (finish_sameOutside _ s) nofun
  | l3dIpv4 | l3dArp | l3dIpv6 | l3dUnknown e => cases h; exact .parser (setEth_sameOutside s _) id
  | l4dTcp | l4dUdp | l4dIcmp | l4dIcmp6 | l4dUnknown p =>
    cases h; exact .parser (setNet_sameOutside s _) id
  | start => cases h; exact .start rfl
  | cnop => cases h; exact .parser ⟨rfl, rfl, rfl, rfl, rfl, rfl, rfl, rfl⟩ id
  | wfb a b =>
    obtain ⟨hfb, hother, -⟩ := wfb_frame h
    exact .wfb hfb hother
  | wflen n => exact .wflen (wflen_frame h)
  | rreg k =>
    obtain ⟨hpar, hfb, -, hflen⟩ := rreg_frame h
    exact .rreg hpar hfb hflen

/-- Settles O48: each change is traced to the one operation whose effect allows it. -/
theorem whoWritesWhat : Obligations.WhoWritesWhat := by
  intro s t i h
  cases exec_effect h with
  | parser hout _ =>
    have hbytes : SameBytes s t := hout.sameBytes
    obtain ⟨hcfg, -, hflen, hframe, hhost, hread, hdraws, hresets⟩ := hout
    exact ⟨fun a ha => absurd (hbytes a) ha, fun hn => absurd hflen hn,
      fun hn => hn.elim (absurd hread) (absurd hdraws), fun hn => absurd hframe hn,
      hcfg, hhost, hresets⟩
  | start _ =>
    obtain ⟨hcfg, -, hbytes, hflen, hhost, hread, hdraws, hresets⟩ := start_frame h
    exact ⟨fun a ha => absurd (hbytes a) ha, fun hn => absurd hflen hn,
      fun hn => hn.elim (absurd hread) (absurd hdraws), fun _ => rfl, hcfg, hhost, hresets⟩
  | @wfb a b hfb hother =>
    obtain ⟨m, rfl⟩ := hfb
    have hindex : ∀ j, fbByte (s.setFb m) j ≠ fbByte s j → j = a := fun j hj =>
      by_contra fun hne => hj (hother j hne)
    exact ⟨fun j hj => ⟨b, by rw [hindex j hj]⟩, fun hn => absurd rfl hn,
      fun hn => hn.elim (absurd rfl) (absurd rfl), fun hn => absurd rfl hn, rfl, rfl, rfl⟩
  | @wflen n ht =>
    obtain ⟨m, rfl⟩ := ht
    exact ⟨fun a ha => absurd (fbByte_congr rfl rfl a) ha, fun _ => ⟨n, rfl⟩,
      fun hn => hn.elim (absurd rfl) (absurd rfl), fun hn => absurd rfl hn, rfl, rfl, rfl⟩
  | @rreg k hpar hfb hflen =>
    obtain ⟨hcfg, -, hframe, -, -, hhost, hresets⟩ := hpar
    exact ⟨fun a ha => absurd (fbByte_congr hfb hresets a) ha, fun hn => absurd hflen hn,
      fun _ => ⟨k, rfl⟩, fun hn => absurd hframe hn, hcfg, hhost, hresets⟩

/-- No operation takes the block to IDLE. -/
theorem exec_idle {s t : State} {i : Instr} (h : exec i s = .next t) (hidle : t.runState = .idle) :
    s.runState = .idle := by
  cases exec_effect h with
  | parser _ hrun => exact hrun hidle
  | start ht =>
    rcases unlessBusy_cases s s.beginDecode with ⟨-, hu⟩ | ⟨-, hu⟩
    · rwa [ht, hu] at hidle
    · rw [ht, hu] at hidle
      exact absurd hidle nofun
  | wfb hfb _ => obtain ⟨m, rfl⟩ := hfb; exact hidle
  | wflen ht => obtain ⟨m, rfl⟩ := ht; exact hidle
  | rreg hpar _ _ =>
    obtain ⟨-, ⟨hrun, -, -⟩, -⟩ := hpar
    rwa [hrun] at hidle

/-! What a step runs -/

/-- What a selector can do: its operation runs, or it is a write that is ignored. -/
theorem runSelector_next {s t : State} {sel : Selector} (h : runSelector sel s = .next t) :
    (∃ i, decode s.cfg sel = .ok i ∧ exec i s = .next t) ∨
    (∃ k, decode s.cfg sel = .error (.ignoredWrite k) ∧ t = s) := by
  unfold runSelector at h
  split at h
  next i hi => exact .inl ⟨i, hi, h⟩
  next k hk => cases h; exact .inr ⟨k, hk, rfl⟩
  next => cases h
  next => cases h

/-- Whose turn a step was, and what it ran. -/
theorem step_next {s t : State} (h : step s = .next t) :
    (turn s = .reset ∧ t = hardReset (takeMove s)) ∨
    (∃ r, turn s = .host r ∧ runSelector (.port r) (takeMove s) = .next t) ∨
    (turn s = .parser ∧ runSelector (stageSelector s) (takeMove s) = .next t) ∨
    (turn s = .nobody ∧ t = takeMove s) := by
  unfold step at h
  split at h
  next ht => cases h; exact .inl ⟨ht, rfl⟩
  next r ht => exact .inr (.inl ⟨r, ht, h⟩)
  next ht => exact .inr (.inr (.inl ⟨ht, h⟩))
  next ht => cases h; exact .inr (.inr (.inr ⟨ht, rfl⟩))

theorem runSelector_idle {s t : State} {sel : Selector} (h : runSelector sel s = .next t)
    (hidle : t.runState = .idle) : s.runState = .idle := by
  rcases runSelector_next h with ⟨i, -, hi⟩ | ⟨k, -, rfl⟩
  · exact exec_idle hi hidle
  · exact hidle

/-- Settles O3: neither an operation nor an idle turn takes the block to IDLE. -/
theorem onlyResetReturnsToIdle : Obligations.OnlyResetReturnsToIdle := by
  intro s t h hidle
  rcases step_next h with ⟨ht, -⟩ | ⟨r, -, hr⟩ | ⟨-, hp⟩ | ⟨-, rfl⟩
  · exact .inr ht
  · exact .inl (runSelector_idle (s := takeMove s) hr hidle)
  · exact .inl (runSelector_idle (s := takeMove s) hp hidle)
  · exact .inl hidle

/-- A step in which the host makes an access. -/
theorem step_port {s : State} {rest : List HostMove} {r : PortReq} (h : s.host = .port r :: rest) :
    step s = runSelector (.port r) (takeMove s) := by
  have ht : turn s = .host r := by rw [turn, h]
  rw [step, ht]

/-- Settles O46: such a write decodes to a rejection by name, which has no effect. -/
theorem otherRegisterWritesIgnored : Obligations.OtherRegisterWritesIgnored := by
  intro s rest k v h0 h4 hhost
  have hd : decode (takeMove s).cfg (.port (.writeReg k v)) = .error (.ignoredWrite k) := by
    simp [decode, decodePort, h0, h4]
  rw [step_port hhost, runSelector, hd]

theorem decode_ctrl (c : Config) (v : Nat) :
    decode c (.port (.writeReg 0 v)) = .ok (if v % 2 = 1 then .start else .cnop) := rfl

theorem step_ctrl_odd {s : State} {rest : List HostMove} {v : Nat}
    (h : s.host = .port (.writeReg 0 v) :: rest) (hv : v % 2 = 1) :
    step s = exec .start (takeMove s) := by
  rw [step_port h, runSelector, decode_ctrl, if_pos hv]

theorem step_ctrl_even {s : State} {rest : List HostMove} {v : Nat}
    (h : s.host = .port (.writeReg 0 v) :: rest) (hv : v % 2 = 0) :
    step s = .next (takeMove s) := by
  rw [step_port h, runSelector, decode_ctrl, if_neg (by omega)]
  rfl

/-- Settles O47: the decoder looks at bit 0 alone, and CNOP has no effect. -/
theorem ctrlWriteUsesBitZero : Obligations.CtrlWriteUsesBitZero := by
  intro s rest v hhost
  exact ⟨step_ctrl_odd hhost, step_ctrl_even hhost⟩

end Sys2Proof.Machine
end

section
/-! The invariant (`10` R20 to R30): what it says while a decode runs, after one has ended and before
the first; and that reset meets it and every step keeps it. -/

namespace Sys2Proof.Machine

/-! The invariant by STATE -/

/-- What the invariant says of the parts of the state that no operation of the parser writes. -/
abbrev HostInv (s : State) : Prop := s.cfg.ok ∧ BufferOk s ∧ LengthsOk s

/-- What the invariant says of the record while the operation of stage `st` is to come. -/
def StageInv (s : State) : Stage → Prop
  | .sEth => s.record = Record.zero
  | .sNet => EthDone s ∧ BeyondEthZero s
  | .sArpd =>
    EthDone s ∧ NetDone s ∧ s.record.eth.l3Class = .arp ∧ s.record.arp = ArpRegs.zero ∧ XportZero s
  | .sXport =>
    EthDone s ∧ NetDone s ∧ (s.record.eth.l3Class ≠ .arp → s.record.arp = ArpRegs.zero) ∧ XportZero s
  | .sEnd => False

/-- What the invariant says of the transport groups after OK: those that L4_CLASS does not name are 0. -/
abbrev XportOk (s : State) : Prop :=
  (s.record.net.l4Class ≠ .tcp → s.record.tcp = TcpRegs.zero) ∧
  (s.record.net.l4Class ≠ .udp → s.record.udp = UdpRegs.zero) ∧
  (s.record.net.l4Class ≠ .icmp ∧ s.record.net.l4Class ≠ .icmpv6 → s.record.icmp = IcmpRegs.zero)

/-- What the invariant says of the record after a decode that ended with the status `st`. -/
def EndInv (s : State) : Status → Prop
  | .none => False
  | .ok =>
    EthDone s ∧ NetDone s ∧ (s.record.eth.l3Class ≠ .arp → s.record.arp = ArpRegs.zero) ∧ XportOk s
  | .l3Unknown => EthDone s ∧ s.record.eth.l3Class = .unknown ∧ BeyondEthZero s
  | .underflow => s.record = Record.zero

theorem stateInv_iff_of_busy {s : State} (h : s.runState = .busy) :
    StateInv s ↔ HostInv s ∧ s.status = .none ∧ s.errStage = .none ∧ StageInv s s.stage := by
  constructor
  · rintro ⟨hcfg, hbuf, hlen, ⟨hbusy, hdone, herr⟩, -, hEth, hNet, hArpd, hXport, -⟩
    have hstatus : s.status = .none := by simpa [h] using hdone
    have herr : s.errStage = .none := by simpa [hstatus] using herr
    refine ⟨⟨hcfg, hbuf, hlen⟩, hstatus, herr, ?_⟩
    cases hs : s.stage with
    | sEth => exact hEth hs
    | sNet => exact hNet hs
    | sArpd => exact hArpd hs
    | sXport => exact hXport hs
    | sEnd => exact absurd hs (hbusy.1 h)
  · rintro ⟨⟨hcfg, hbuf, hlen⟩, hstatus, herr, hstage⟩
    refine ⟨hcfg, hbuf, hlen, ⟨?_, by simp [h, hstatus], by simp [hstatus, herr]⟩, by simp [h], ?_, ?_, ?_, ?_,
      by simp [hstatus], by simp [hstatus], by simp [hstatus]⟩
    · exact ⟨fun _ he => by rw [he] at hstage; exact hstage, fun _ => h⟩
    all_goals exact fun hs => by rw [hs] at hstage; exact hstage

theorem stateInv_iff_of_done {s : State} (h : s.runState = .done) :
    StateInv s ↔ HostInv s ∧ s.stage = .sEnd ∧ (s.status = .underflow ↔ s.errStage ≠ .none) ∧
      EndInv s s.status := by
  constructor
  · rintro ⟨hcfg, hbuf, hlen, ⟨hbusy, hdone, herr⟩, -, -, -, -, -, hOk, hUnk, hUnd⟩
    refine ⟨⟨hcfg, hbuf, hlen⟩, by simpa [h] using hbusy, herr, ?_⟩
    cases hs : s.status with
    | none => exact hdone.1 h hs
    | ok => exact hOk hs
    | l3Unknown => exact hUnk hs
    | underflow => exact hUnd hs
  · rintro ⟨⟨hcfg, hbuf, hlen⟩, hstage, herr, hend⟩
    refine ⟨hcfg, hbuf, hlen, ⟨by simp [h, hstage], ?_, herr⟩, by simp [h], by simp [hstage], by simp [hstage],
      by simp [hstage], by simp [hstage], ?_, ?_, ?_⟩
    · exact ⟨fun _ he => by rw [he] at hend; exact hend, fun _ => h⟩
    all_goals exact fun hs => by rw [hs] at hend; exact hend

theorem stateInv_iff_of_idle {s : State} (h : s.runState = .idle) :
    StateInv s ↔ HostInv s ∧ s.stage = .sEnd ∧ s.status = .none ∧ s.errStage = .none ∧
      s.record = Record.zero := by
  constructor
  · rintro ⟨hcfg, hbuf, hlen, ⟨hbusy, hdone, herr⟩, hidle, -⟩
    have hstatus : s.status = .none := by simpa [h] using hdone
    exact ⟨⟨hcfg, hbuf, hlen⟩, by simpa [h] using hbusy, hstatus, by simpa [hstatus] using herr, hidle h⟩
  · rintro ⟨⟨hcfg, hbuf, hlen⟩, hstage, hstatus, herr, hrec⟩
    exact ⟨hcfg, hbuf, hlen, ⟨by simp [h, hstage], by simp [h, hstatus], by simp [hstatus, herr]⟩,
      fun _ => hrec, fun _ => hrec, by simp [hstage], by simp [hstage], by simp [hstage], by simp [hstatus],
      by simp [hstatus], fun _ => hrec⟩

/-- Settles O4: reset is the idle state with every record register 0 and nothing written to FB. -/
theorem resetMeetsInv : Obligations.ResetMeetsInv :=
  (stateInv_iff_of_idle rfl).2 ⟨⟨by decide, by decide, by decide⟩, rfl, rfl, rfl, rfl⟩

theorem hardReset_inv {s : State} (h : StateInv s) : StateInv (hardReset s) := by
  obtain ⟨hcfg, -⟩ := h
  exact (stateInv_iff_of_idle rfl).2
    ⟨⟨hcfg, ⟨rfl, rfl⟩, Nat.zero_le _, Nat.zero_le _⟩, rfl, rfl, rfl, rfl⟩

/-- The moves still to come are no part of the invariant. -/
theorem takeMove_inv {s : State} (h : StateInv s) : StateInv (takeMove s) := h

/-! The host's operations keep it -/

theorem unlessBusy_inv {s t : State} (h : StateInv s) (ht : s.runState ≠ .busy → StateInv t) :
    StateInv (unlessBusy s t) := by
  rcases unlessBusy_cases s t with ⟨-, hu⟩ | ⟨hfree, hu⟩
  · rwa [hu]
  · rw [hu]
    exact ht hfree

theorem beginDecode_inv {s : State} (h : StateInv s) : StateInv s.beginDecode := by
  obtain ⟨hcfg, hbuf, ⟨hflen, -⟩, -⟩ := h
  exact (stateInv_iff_of_busy rfl).2 ⟨⟨hcfg, hbuf, hflen, hflen⟩, rfl, rfl, rfl⟩

theorem memWrite_inv {s : State} (i : Nat) (b : Byte) (h : StateInv s) : StateInv (memWrite s i b) := by
  rcases memWrite_cases s i b with ⟨hi, hw⟩ | ⟨-, hw⟩
  · rw [hw]
    obtain ⟨hcfg, ⟨hwf, hbelow⟩, hrest⟩ := h
    exact ⟨hcfg, ⟨Memory.set_wf i b hwf, Memory.set_below b hi hbelow⟩, hrest⟩
  · rwa [hw]

theorem setFlen_inv {s : State} {n : Nat} (hn : n ≤ s.cfg.frameMax) (h : StateInv s) :
    StateInv (s.setFlen n) := by
  obtain ⟨hcfg, hbuf, ⟨-, hframe⟩, hrest⟩ := h
  exact ⟨hcfg, hbuf, ⟨hn, hframe⟩, hrest⟩

theorem readRegister_inv {s : State} (k : Nat) (h : StateInv s) : StateInv (readRegister s k) := by
  obtain ⟨v, hv | hv⟩ := readRegister_cases s k
  · rw [hv]
    exact h
  · rw [hv]
    exact h

theorem mod_lenW_le_frameMax (c : Config) (n : Nat) : n % 2 ^ c.lenW ≤ c.frameMax :=
  Nat.le_sub_one_of_lt (Nat.mod_lt n (by positivity))

/-- A port access keeps the invariant, whatever it asks for. -/
theorem runPort_inv {s t : State} {r : PortReq} (h : StateInv s)
    (hrun : runSelector (.port r) s = .next t) : StateInv t := by
  cases r with
  | writeFrame i b =>
    cases hrun
    exact unlessBusy_inv h fun _ => memWrite_inv _ b h
  | readReg k =>
    cases hrun
    exact readRegister_inv k h
  | writeReg k v =>
    rcases runSelector_next hrun with ⟨i, hd, hi⟩ | ⟨-, -, rfl⟩
    · simp only [decode, decodePort, decodeCtrl] at hd
      split_ifs at hd
      · cases hd; cases hi
        exact unlessBusy_inv h fun _ => beginDecode_inv h
      · cases hd; cases hi
        exact h
      · cases hd; cases hi
        exact unlessBusy_inv h fun _ => setFlen_inv (mod_lenW_le_frameMax _ v) h
    · exact h

end Sys2Proof.Machine
end

section
/-! The parser's operations keep the invariant, each at the stage it runs in (`47` R233). -/

namespace Sys2Proof.Machine

/-! Which operation a stage runs -/

/-- The operation of S_NET for each class (`42` R160). -/
def netOp : L3Class → Instr
  | .unknown => .netunk | .ipv4 => .net4 | .ipv6 => .net6 | .arp => .netarp

/-- The operation of S_XPORT for each class (`45` R200, `47` R234). -/
def xportOp : L4Class → Instr
  | .unknown => .xnone | .tcp => .tcpd | .udp => .udpd | .icmp => .icmpd | .icmpv6 => .icmp6d
  | .arp => .xnone

theorem runStage_sEth {s : State} (h : s.stage = .sEth) :
    runSelector (stageSelector s) s = exec .eth s := by
  rw [stageSelector, h]
  rfl

theorem runStage_sArpd {s : State} (h : s.stage = .sArpd) :
    runSelector (stageSelector s) s = exec .arpd s := by
  rw [stageSelector, h]
  rfl

theorem runStage_sNet {s : State} (h : s.stage = .sNet) :
    runSelector (stageSelector s) s = exec (netOp s.record.eth.l3Class) s := by
  rw [stageSelector, h]
  cases s.record.eth.l3Class <;> rfl

theorem runStage_sXport {s : State} (h : s.stage = .sXport) :
    runSelector (stageSelector s) s = exec (xportOp s.record.net.l4Class) s := by
  rw [stageSelector, h]
  cases s.record.net.l4Class <;> rfl

/-! The parts of the invariant depend on few registers -/

theorem HostInv.congr {s t : State} (hout : SameOutside s t) (h : HostInv s) : HostInv t := by
  obtain ⟨hcfg, hfb, hflen, hframe, -⟩ := hout
  unfold HostInv BufferOk LengthsOk
  rwa [hcfg, hfb, hflen, hframe]

theorem EthDone.congr {s t : State} (hout : SameOutside s t) (heth : t.record.eth = s.record.eth)
    (h : EthDone s) : EthDone t := by
  obtain ⟨hcfg, -, -, hframe, -⟩ := hout
  unfold EthDone
  rwa [hcfg, hframe, heth]

theorem NetDone.congr {s t : State} (hout : SameOutside s t) (heth : t.record.eth = s.record.eth)
    (hnet : t.record.net = s.record.net) (h : NetDone s) : NetDone t := by
  obtain ⟨-, -, -, hframe, -⟩ := hout
  unfold NetDone
  rwa [hframe, heth, hnet]

/-! The three ways an operation ends -/

theorem enterUnderflow_inv {s : State} {e : ErrStage} (he : e ≠ .none) (h : HostInv s) :
    StateInv (enterUnderflow e s) :=
  (stateInv_iff_of_done rfl).2 ⟨h, rfl, ⟨fun _ => he, fun _ => rfl⟩, rfl⟩

theorem finish_inv {s : State} {code : Status} (hhost : HostInv s) (herr : s.errStage = .none)
    (hcode : code ≠ .underflow) (hend : EndInv s code) : StateInv (finish code s) :=
  (stateInv_iff_of_done rfl).2
    ⟨hhost, rfl, ⟨fun h => absurd h hcode, fun h => absurd herr h⟩, hend⟩

/-- An operation that goes on to stage `st`. -/
theorem nextStage_inv {s t : State} {st : Stage} (h : StateInv s) (hbusy : s.runState = .busy)
    (hout : SameOutside s t) (hrun : SameRun s t) (hst : t.stage = st) (hinv : StageInv t st) :
    StateInv t := by
  obtain ⟨hhost, hstatus, herr, -⟩ := (stateInv_iff_of_busy hbusy).1 h
  obtain ⟨hrun, hst', herr'⟩ := hrun
  exact (stateInv_iff_of_busy (hrun.trans hbusy)).2
    ⟨hhost.congr hout, hst'.trans hstatus, herr'.trans herr, hst ▸ hinv⟩

/-! ETH -/

theorem execEth_inv {s t : State} (h : StateInv s) (hbusy : s.runState = .busy)
    (hst : s.stage = .sEth) (hx : exec .eth s = .next t) : StateInv t := by
  obtain ⟨hhost, -, -, hstage⟩ := (stateInv_iff_of_busy hbusy).1 h
  rw [hst] at hstage
  have hzero : s.record = Record.zero := hstage
  rcases execEth_answers hx with ⟨-, ht⟩ | ⟨hlen, ht⟩
  · exact ht ▸ enterUnderflow_inv nofun hhost
  · obtain ⟨hout, hrun, hnext, hnet, harp, htcp, hudp, hicmp⟩ := setEth_frame ht
    have heth : t.record.eth = wholeEth s.cfg s.frameLen (field s) := by rw [ht]; rfl
    have hcfg : t.cfg = s.cfg := hout.cfg_eq
    have hframe : t.frameLen = s.frameLen := by rw [ht]; rfl
    refine nextStage_inv h hbusy hout hrun hnext ⟨⟨?_, ?_, ?_⟩, ?_⟩
    · rw [heth]; rfl
    · rw [heth, hframe]
      exact Nat.add_sub_cancel' hlen
    · rw [heth, hcfg]; rfl
    · rw [BeyondEthZero, XportZero, hnet, harp, htcp, hudp, hicmp, hzero]
      exact ⟨rfl, rfl, rfl, rfl, rfl⟩

/-! NET4, NET6 and NETARP -/

theorem l4d_ne_arp (c : Config) (p : BitVec 8) : l4d c p ≠ .arp := by
  unfold l4d
  split_ifs <;> nofun

/-- An address read from 4 bytes leaves bits 127 to 32 zero (`10` R37). -/
theorem addr_of_four_bytes (s : State) (base : Nat) {f : Slice} (h : f.size = 4) :
    (BitVec.ofNat 128 (readBy (field s) base f)).toNat < 2 ^ 32 := by
  have hlt : readBy (field s) base f < 256 ^ f.size := field_lt s _ _
  rw [h] at hlt
  rw [BitVec.toNat_ofNat]
  exact lt_of_le_of_lt (Nat.mod_le _ _) hlt

/-- The view and class that a network operation which consumes `n` bytes leaves. -/
theorem netDone_of_netRegs {s t : State} {src dst : Slice} {cls : L4Class} {n : Nat} (hE : EthDone s)
    (hout : SameOutside s t) (heth : t.record.eth = s.record.eth)
    (hnet : t.record.net = netRegs s src dst cls n) (hlen : n ≤ s.record.eth.pay2Len)
    (hknown : s.record.eth.l3Class ≠ .unknown)
    (hn : 18 + n = if s.record.eth.l3Class = .ipv6 then 58 else 38)
    (hcls : cls = .arp ↔ s.record.eth.l3Class = .arp)
    (haddr : s.record.eth.l3Class ≠ .ipv6 → src.size = 4 ∧ dst.size = 4) : NetDone t := by
  obtain ⟨hoff, hview, -⟩ := hE
  obtain ⟨-, -, -, hframe, -⟩ := hout
  rw [NetDone, heth, hnet, hframe, ← hview, ← hn, ← hoff]
  refine ⟨hknown, rfl, ?_, hcls, fun h6 => ?_⟩
  · show s.record.eth.pay2Off + n + (s.record.eth.pay2Len - n) = _
    omega
  · obtain ⟨hs, hd⟩ := haddr h6
    exact ⟨addr_of_four_bytes s _ hs, addr_of_four_bytes s _ hd⟩

/-- What each of the three leaves at the stage that follows it. -/
theorem Answers.net_inv {s t : State} {src dst : Slice} {cls : L4Class} {n : Nat} {e : ErrStage}
    {st : Stage} (h : StateInv s) (hbusy : s.runState = .busy) (hst : s.stage = .sNet)
    (ha : Answers s.record.eth.pay2Len n e s ((s.setNet (netRegs s src dst cls n)).setStage st) t)
    (he : e ≠ .none) (hknown : s.record.eth.l3Class ≠ .unknown)
    (hn : 18 + n = if s.record.eth.l3Class = .ipv6 then 58 else 38)
    (hcls : cls = .arp ↔ s.record.eth.l3Class = .arp)
    (haddr : s.record.eth.l3Class ≠ .ipv6 → src.size = 4 ∧ dst.size = 4)
    (hnext : st = .sXport ∨ st = .sArpd ∧ s.record.eth.l3Class = .arp) : StateInv t := by
  obtain ⟨hhost, -, -, hstage⟩ := (stateInv_iff_of_busy hbusy).1 h
  rw [hst] at hstage
  obtain ⟨hE, -, harp0, htcp0, hudp0, hicmp0⟩ := hstage
  rcases ha with ⟨-, ht⟩ | ⟨hlen, ht⟩
  · exact ht ▸ enterUnderflow_inv he hhost
  · obtain ⟨hout, hrun, hstage', heth, harp, htcp, hudp, hicmp⟩ := setNet_frame ht
    have hE' : EthDone t := hE.congr hout heth
    have hN' : NetDone t :=
      netDone_of_netRegs hE hout heth (by rw [ht]; rfl) hlen hknown hn hcls haddr
    have hA' : t.record.arp = ArpRegs.zero := harp.trans harp0
    have hX' : XportZero t := ⟨htcp.trans htcp0, hudp.trans hudp0, hicmp.trans hicmp0⟩
    refine nextStage_inv h hbusy hout hrun hstage' ?_
    rcases hnext with rfl | ⟨rfl, hc⟩
    · exact ⟨hE', hN', fun _ => hA', hX'⟩
    · exact ⟨hE', hN', heth ▸ hc, hA', hX'⟩

theorem execNet4_inv {s t : State} (h : StateInv s) (hbusy : s.runState = .busy)
    (hst : s.stage = .sNet) (hc : s.record.eth.l3Class = .ipv4) (hx : exec .net4 s = .next t) :
    StateInv t :=
  (execNet4_answers hx).net_inv h hbusy hst nofun (by simp [hc]) (by simp [hc])
    (by simp [hc, protoClass, l4d_ne_arp]) (fun _ => ⟨rfl, rfl⟩) (.inl rfl)

theorem execNet6_inv {s t : State} (h : StateInv s) (hbusy : s.runState = .busy)
    (hst : s.stage = .sNet) (hc : s.record.eth.l3Class = .ipv6) (hx : exec .net6 s = .next t) :
    StateInv t :=
  (execNet6_answers hx).net_inv h hbusy hst nofun (by simp [hc]) (by simp [hc])
    (by simp [hc, protoClass, l4d_ne_arp]) (fun h6 => absurd hc h6) (.inl rfl)

theorem execNetarp_inv {s t : State} (h : StateInv s) (hbusy : s.runState = .busy)
    (hst : s.stage = .sNet) (hc : s.record.eth.l3Class = .arp) (hx : exec .netarp s = .next t) :
    StateInv t :=
  (execNetarp_answers hx).net_inv h hbusy hst nofun (by simp [hc]) (by simp [hc]) (by simp [hc])
    (fun _ => ⟨rfl, rfl⟩) (.inr ⟨rfl, hc⟩)

/-- NETUNK ends the decode with what ETH left. -/
theorem execNetunk_inv {s t : State} (h : StateInv s) (hbusy : s.runState = .busy)
    (hst : s.stage = .sNet) (hc : s.record.eth.l3Class = .unknown) (hx : exec .netunk s = .next t) :
    StateInv t := by
  obtain ⟨hhost, -, herr, hstage⟩ := (stateInv_iff_of_busy hbusy).1 h
  rw [hst] at hstage
  obtain ⟨hE, hzero⟩ := hstage
  cases hx
  exact finish_inv hhost herr nofun ⟨hE, hc, hzero⟩

theorem execNetOp_inv {s t : State} (h : StateInv s) (hbusy : s.runState = .busy)
    (hst : s.stage = .sNet) (hx : exec (netOp s.record.eth.l3Class) s = .next t) : StateInv t := by
  cases hc : s.record.eth.l3Class with
  | unknown => rw [hc] at hx; exact execNetunk_inv h hbusy hst hc hx
  | ipv4 => rw [hc] at hx; exact execNet4_inv h hbusy hst hc hx
  | ipv6 => rw [hc] at hx; exact execNet6_inv h hbusy hst hc hx
  | arp => rw [hc] at hx; exact execNetarp_inv h hbusy hst hc hx

/-! ARPD -/

theorem execArpd_inv {s t : State} (h : StateInv s) (hbusy : s.runState = .busy)
    (hst : s.stage = .sArpd) (hx : exec .arpd s = .next t) : StateInv t := by
  obtain ⟨hhost, -, -, hstage⟩ := (stateInv_iff_of_busy hbusy).1 h
  rw [hst] at hstage
  obtain ⟨hE, hN, hc, -, htcp0, hudp0, hicmp0⟩ := hstage
  rcases execArpd_answers hx with ⟨-, ht⟩ | ⟨-, ht⟩
  · exact ht ▸ enterUnderflow_inv nofun hhost
  · obtain ⟨hout, hrun, hnext, heth, hnet, htcp, hudp, hicmp⟩ := setArp_frame ht
    exact nextStage_inv h hbusy hout hrun hnext
      ⟨hE.congr hout heth, hN.congr hout heth hnet, fun hne => absurd (heth ▸ hc) hne,
        htcp.trans htcp0, hudp.trans hudp0, hicmp.trans hicmp0⟩

/-! The transport stage -/

/-- A transport operation that ends the decode from `u`, in which its own group is written. -/
theorem finish_xport_inv {s u : State} (h : StateInv s) (hbusy : s.runState = .busy)
    (hst : s.stage = .sXport) (hout : SameOutside s u) (herr : u.errStage = s.errStage)
    (heth : u.record.eth = s.record.eth) (hnet : u.record.net = s.record.net)
    (harp : u.record.arp = s.record.arp) (hx : XportZero s → XportOk u) :
    StateInv (finish .ok u) := by
  obtain ⟨hhost, -, herr0, hstage⟩ := (stateInv_iff_of_busy hbusy).1 h
  rw [hst] at hstage
  obtain ⟨hE, hN, hA, hX⟩ := hstage
  refine finish_inv (hhost.congr hout) (herr.trans herr0) nofun
    ⟨hE.congr hout heth, hN.congr hout heth hnet, ?_, hx hX⟩
  rw [heth, harp]
  exact hA

theorem Answers.xport_inv {len least : Nat} {e : ErrStage} {s u t : State} (h : StateInv s)
    (ha : Answers len least e s (finish .ok u) t) (he : e ≠ .none)
    (hu : StateInv (finish .ok u)) : StateInv t := by
  obtain ⟨hcfg, hbuf, hlen, -⟩ := h
  rcases ha with ⟨-, ht⟩ | ⟨-, ht⟩
  · exact ht ▸ enterUnderflow_inv he ⟨hcfg, hbuf, hlen⟩
  · exact ht ▸ hu

theorem finish_setTcp_inv {s : State} (r : TcpRegs) (h : StateInv s) (hbusy : s.runState = .busy)
    (hst : s.stage = .sXport) (hc : s.record.net.l4Class = .tcp) :
    StateInv (finish .ok (s.setTcp r)) := by
  refine finish_xport_inv h hbusy hst (setTcp_sameOutside s r) rfl rfl rfl rfl ?_
  rintro ⟨-, hudp, hicmp⟩
  exact ⟨fun hne => absurd hc hne, fun _ => hudp, fun _ => hicmp⟩

theorem finish_setUdp_inv {s : State} (r : UdpRegs) (h : StateInv s) (hbusy : s.runState = .busy)
    (hst : s.stage = .sXport) (hc : s.record.net.l4Class = .udp) :
    StateInv (finish .ok (s.setUdp r)) := by
  refine finish_xport_inv h hbusy hst (setUdp_sameOutside s r) rfl rfl rfl rfl ?_
  rintro ⟨htcp, -, hicmp⟩
  exact ⟨fun _ => htcp, fun hne => absurd hc hne, fun _ => hicmp⟩

theorem finish_setIcmp_inv {s : State} (r : IcmpRegs) (h : StateInv s) (hbusy : s.runState = .busy)
    (hst : s.stage = .sXport) (hc : s.record.net.l4Class = .icmp ∨ s.record.net.l4Class = .icmpv6) :
    StateInv (finish .ok (s.setIcmp r)) := by
  refine finish_xport_inv h hbusy hst (setIcmp_sameOutside s r) rfl rfl rfl rfl ?_
  rintro ⟨htcp, hudp, -⟩
  exact ⟨fun _ => htcp, fun _ => hudp, fun ⟨h4, h6⟩ => (hc.elim h4 h6).elim⟩

theorem execXnone_inv {s t : State} (h : StateInv s) (hbusy : s.runState = .busy)
    (hst : s.stage = .sXport) (hx : exec .xnone s = .next t) : StateInv t := by
  cases hx
  refine finish_xport_inv h hbusy hst ⟨rfl, rfl, rfl, rfl, rfl, rfl, rfl, rfl⟩ rfl rfl rfl rfl ?_
  rintro ⟨htcp, hudp, hicmp⟩
  exact ⟨fun _ => htcp, fun _ => hudp, fun _ => hicmp⟩

theorem execXportOp_inv {s t : State} (h : StateInv s) (hbusy : s.runState = .busy)
    (hst : s.stage = .sXport) (hx : exec (xportOp s.record.net.l4Class) s = .next t) :
    StateInv t := by
  cases hc : s.record.net.l4Class with
  | unknown => rw [hc] at hx; exact execXnone_inv h hbusy hst hx
  | arp => rw [hc] at hx; exact execXnone_inv h hbusy hst hx
  | tcp =>
    rw [hc] at hx
    exact (execTcpd_answers hx).xport_inv h nofun (finish_setTcp_inv _ h hbusy hst hc)
  | udp =>
    rw [hc] at hx
    exact (execUdpd_answers hx).xport_inv h nofun (finish_setUdp_inv _ h hbusy hst hc)
  | icmp =>
    rw [hc] at hx
    exact (execIcmpd_answers hx).xport_inv h nofun (finish_setIcmp_inv _ h hbusy hst (.inl hc))
  | icmpv6 =>
    rw [hc] at hx
    exact (execIcmp6d_answers hx).xport_inv h nofun (finish_setIcmp_inv _ h hbusy hst (.inr hc))

/-! Every step -/

theorem runStage_inv {s t : State} (h : StateInv s) (hbusy : s.runState = .busy)
    (hx : runSelector (stageSelector s) s = .next t) : StateInv t := by
  cases hst : s.stage with
  | sEth => exact execEth_inv h hbusy hst (runStage_sEth hst ▸ hx)
  | sNet => exact execNetOp_inv h hbusy hst (runStage_sNet hst ▸ hx)
  | sArpd => exact execArpd_inv h hbusy hst (runStage_sArpd hst ▸ hx)
  | sXport => exact execXportOp_inv h hbusy hst (runStage_sXport hst ▸ hx)
  | sEnd =>
    obtain ⟨-, -, -, hstage⟩ := (stateInv_iff_of_busy hbusy).1 h
    rw [hst] at hstage
    exact hstage.elim

/-- The parser has the turn only while BUSY. -/
theorem busy_of_turn_parser {s : State} (h : turn s = .parser) : s.runState = .busy := by
  unfold turn at h
  split at h
  next => cases h
  next => cases h
  next => split_ifs at h with hbusy; exact hbusy
  next => split_ifs at h with hbusy; exact hbusy

/-- Settles O5, by whose turn the step is. -/
theorem stepKeepsInv : Obligations.StepKeepsInv := by
  intro s t h hx
  rcases step_next hx with ⟨-, rfl⟩ | ⟨r, -, hr⟩ | ⟨hturn, hp⟩ | ⟨-, rfl⟩
  · exact hardReset_inv (takeMove_inv h)
  · exact runPort_inv (takeMove_inv h) hr
  · have hbusy : s.runState = .busy := busy_of_turn_parser hturn
    exact runStage_inv (takeMove_inv h) hbusy hp
  · exact takeMove_inv h

end Sys2Proof.Machine
end

section
/-! Registers and flags (`10` R20, R28, R48): VALID, the widths, the numbers, and what the invariant says
of the record. -/

namespace Sys2Proof.Machine

/-! Reset -/

/-- Every register reads its enumeration's code 0 or the number 0. -/
theorem regValue_reset (r : Reg) : regValue State.reset r = 0 := by
  cases r <;> rfl

/-- Settles O1: FB lists no byte, and every register reads 0 (`regValue_reset`). -/
theorem resetRegisterValues : Obligations.ResetRegisterValues :=
  ⟨rfl, rfl, rfl, rfl, rfl, rfl, rfl, rfl, regValue_reset, fun _ => rfl⟩

/-! VALID -/

theorem State.valid_lt (s : State) : s.valid < 16 := by
  rw [State.valid]
  have h2 := Bool.toNat_le s.vL2
  have h3 := Bool.toNat_le s.vL3
  have ha := Bool.toNat_le s.vArp
  have h4 := Bool.toNat_le s.vL4
  omega

/-- The four bits of a number that is written as VALID is. -/
theorem testBit_of_bits (a b c d : Bool) :
    let n := a.toNat + 2 * b.toNat + 4 * c.toNat + 8 * d.toNat
    n.testBit 0 = a ∧ n.testBit 1 = b ∧ n.testBit 2 = c ∧ n.testBit 3 = d := by
  revert a b c d
  decide

theorem State.valid_bit0 (s : State) :
    s.valid.testBit 0 = true ↔ s.status = .ok ∨ s.status = .l3Unknown := by
  obtain ⟨h0, -, -, -⟩ := testBit_of_bits s.vL2 s.vL3 s.vArp s.vL4
  rw [State.valid, h0]
  simp [State.vL2]

theorem State.valid_bit1 (s : State) : s.valid.testBit 1 = true ↔ s.status = .ok := by
  obtain ⟨-, h1, -, -⟩ := testBit_of_bits s.vL2 s.vL3 s.vArp s.vL4
  rw [State.valid, h1]
  simp [State.vL3]

theorem State.valid_bit2 (s : State) :
    s.valid.testBit 2 = true ↔ s.status = .ok ∧ s.record.eth.l3Class = .arp := by
  obtain ⟨-, -, h2, -⟩ := testBit_of_bits s.vL2 s.vL3 s.vArp s.vL4
  rw [State.valid, h2]
  simp [State.vArp]

theorem State.valid_bit3 (s : State) :
    s.valid.testBit 3 = true ↔
      s.status = .ok ∧ s.record.net.l4Class ∈ [L4Class.tcp, .udp, .icmp, .icmpv6] := by
  obtain ⟨-, -, -, h3⟩ := testBit_of_bits s.vL2 s.vL3 s.vArp s.vL4
  rw [State.valid, h3, State.vL4]
  cases s.record.net.l4Class <;> simp

/-! What the invariant says of the groups of the record -/

/-- A group that is not decoded yet, or no longer: its registers are 0 or agree. -/
theorem StateInv.eth_cases {s : State} (h : StateInv s) :
    s.record.eth = EthRegs.zero ∨ EthDone s := by
  cases hrun : s.runState with
  | idle =>
    obtain ⟨-, -, -, -, hzero⟩ := (stateInv_iff_of_idle hrun).1 h
    exact .inl (congrArg Record.eth hzero)
  | busy =>
    obtain ⟨-, -, -, hstage⟩ := (stateInv_iff_of_busy hrun).1 h
    cases hst : s.stage with
    | sEth => rw [hst] at hstage; exact .inl (congrArg Record.eth hstage)
    | sNet | sArpd | sXport => rw [hst] at hstage; exact .inr hstage.1
    | sEnd => rw [hst] at hstage; exact hstage.elim
  | done =>
    obtain ⟨-, -, -, hend⟩ := (stateInv_iff_of_done hrun).1 h
    cases hst : s.status with
    | none => rw [hst] at hend; exact hend.elim
    | ok | l3Unknown => rw [hst] at hend; exact .inr hend.1
    | underflow => rw [hst] at hend; exact .inl (congrArg Record.eth hend)

theorem StateInv.net_cases {s : State} (h : StateInv s) :
    s.record.net = NetRegs.zero ∨ NetDone s := by
  cases hrun : s.runState with
  | idle =>
    obtain ⟨-, -, -, -, hzero⟩ := (stateInv_iff_of_idle hrun).1 h
    exact .inl (congrArg Record.net hzero)
  | busy =>
    obtain ⟨-, -, -, hstage⟩ := (stateInv_iff_of_busy hrun).1 h
    cases hst : s.stage with
    | sEth => rw [hst] at hstage; exact .inl (congrArg Record.net hstage)
    | sNet => rw [hst] at hstage; obtain ⟨-, hnet, -⟩ := hstage; exact .inl hnet
    | sArpd | sXport => rw [hst] at hstage; obtain ⟨-, hN, -⟩ := hstage; exact .inr hN
    | sEnd => rw [hst] at hstage; exact hstage.elim
  | done =>
    obtain ⟨-, -, -, hend⟩ := (stateInv_iff_of_done hrun).1 h
    cases hst : s.status with
    | none => rw [hst] at hend; exact hend.elim
    | ok => rw [hst] at hend; obtain ⟨-, hN, -⟩ := hend; exact .inr hN
    | l3Unknown => rw [hst] at hend; obtain ⟨-, -, hnet, -⟩ := hend; exact .inl hnet
    | underflow => rw [hst] at hend; exact .inl (congrArg Record.net hend)

/-- Outside BUSY and OK registers 15 to 34 are 0. -/
theorem StateInv.beyondEth_zero {s : State} (h : StateInv s) (hfree : s.runState ≠ .busy)
    (hok : s.status ≠ .ok) : BeyondEthZero s := by
  have hzero : s.record = Record.zero → BeyondEthZero s := fun hz => by
    rw [BeyondEthZero, XportZero, hz]
    exact ⟨rfl, rfl, rfl, rfl, rfl⟩
  cases hrun : s.runState with
  | idle =>
    obtain ⟨-, -, -, -, hz⟩ := (stateInv_iff_of_idle hrun).1 h
    exact hzero hz
  | busy => exact absurd hrun hfree
  | done =>
    obtain ⟨-, -, -, hend⟩ := (stateInv_iff_of_done hrun).1 h
    cases hst : s.status with
    | none => rw [hst] at hend; exact hend.elim
    | ok => exact absurd hst hok
    | l3Unknown => rw [hst] at hend; obtain ⟨-, -, hz⟩ := hend; exact hz
    | underflow => rw [hst] at hend; exact hzero hend

/-- Outside BUSY registers 8 to 14 are 0 unless a decode ended with OK or L3_UNKNOWN. -/
theorem StateInv.eth_zero {s : State} (h : StateInv s) (hfree : s.runState ≠ .busy)
    (hst : ¬ (s.status = .ok ∨ s.status = .l3Unknown)) : s.record.eth = EthRegs.zero := by
  obtain ⟨-, -, -, ⟨-, hdone, -⟩, hidle, -, -, -, -, -, -, hund⟩ := h
  cases hs : s.status with
  | none =>
    have hnd : s.runState ≠ .done := fun hd => hdone.1 hd hs
    cases hrun : s.runState with
    | idle => exact congrArg Record.eth (hidle hrun)
    | busy => exact absurd hrun hfree
    | done => exact absurd hrun hnd
  | ok => exact absurd (.inl hs) hst
  | l3Unknown => exact absurd (.inr hs) hst
  | underflow => exact congrArg Record.eth (hund hs)

/-- After OK the invariant ties every group. -/
theorem StateInv.ok {s : State} (h : StateInv s) (hok : s.status = .ok) : EndInv s .ok := by
  obtain ⟨-, -, -, -, -, -, -, -, -, hend, -⟩ := h
  exact hend hok

/-- A group beyond ETH's that no bit of VALID covers is 0: outside OK all of them are, and after OK those
that the classes do not name. -/
theorem StateInv.uncovered_zero {s : State} (h : StateInv s) (hfree : s.runState ≠ .busy) :
    (¬ s.status = .ok → s.record.net = NetRegs.zero) ∧
    (¬ (s.status = .ok ∧ s.record.eth.l3Class = .arp) → s.record.arp = ArpRegs.zero) ∧
    (¬ (s.status = .ok ∧ s.record.net.l4Class = .tcp) → s.record.tcp = TcpRegs.zero) ∧
    (¬ (s.status = .ok ∧ s.record.net.l4Class = .udp) → s.record.udp = UdpRegs.zero) ∧
    (¬ (s.status = .ok ∧ s.record.net.l4Class ∈ [L4Class.icmp, .icmpv6]) →
      s.record.icmp = IcmpRegs.zero) := by
  by_cases hok : s.status = .ok
  · obtain ⟨-, -, harp, htcp, hudp, hicmp⟩ := h.ok hok
    simp only [hok, not_true_eq_false, false_implies, true_and, List.mem_cons, List.not_mem_nil,
      or_false, not_or]
    exact ⟨harp, htcp, hudp, hicmp⟩
  · obtain ⟨hnet, harp, htcp, hudp, hicmp⟩ := h.beyondEth_zero hfree hok
    exact ⟨fun _ => hnet, fun _ => harp, fun _ => htcp, fun _ => hudp, fun _ => hicmp⟩

/-- Settles O49: each bit by its definition, and what is not covered by the invariant. -/
theorem validBits : Obligations.ValidBits := by
  intro s
  refine ⟨s.valid_lt, fun h hfree => ?_, s.valid_bit0, s.valid_bit1, s.valid_bit2, s.valid_bit3⟩
  obtain ⟨hnet, harp, htcp, hudp, hicmp⟩ := h.uncovered_zero hfree
  simp only [← Bool.not_eq_true, s.valid_bit0, s.valid_bit1, s.valid_bit2, s.valid_bit3]
  refine ⟨h.eth_zero hfree, hnet, harp, fun hn => htcp ?_, fun hn => hudp ?_, fun hn => hicmp ?_⟩
  · rintro ⟨hok, hc⟩
    simp [hok, hc] at hn
  · rintro ⟨hok, hc⟩
    simp [hok, hc] at hn
  · rintro ⟨hok, hc⟩
    rcases hn with hn | hn
    · exact hn ⟨hok, List.mem_cons_of_mem _ (List.mem_cons_of_mem _ hc)⟩
    · exact hn hc

/-! Widths and numbers -/

theorem frameMax_lt (c : Config) : c.frameMax < 2 ^ c.lenW :=
  Nat.sub_one_lt (by positivity)

/-- The views lie inside the frame, so they fit as FRAME_LEN does. -/
theorem StateInv.pay2_le {s : State} (h : StateInv s) :
    s.record.eth.pay2Off ≤ s.cfg.frameMax ∧ s.record.eth.pay2Len ≤ s.cfg.frameMax := by
  rcases h.eth_cases with hz | ⟨-, hview, -⟩
  · rw [hz]
    exact ⟨Nat.zero_le _, Nat.zero_le _⟩
  · obtain ⟨-, -, ⟨-, hframe⟩, -⟩ := h
    omega

theorem StateInv.pay3_le {s : State} (h : StateInv s) :
    s.record.net.pay3Off ≤ s.cfg.frameMax ∧ s.record.net.pay3Len ≤ s.cfg.frameMax := by
  rcases h.net_cases with hz | ⟨-, -, hview, -⟩
  · rw [hz]
    exact ⟨Nat.zero_le _, Nat.zero_le _⟩
  · obtain ⟨-, -, ⟨-, hframe⟩, -⟩ := h
    omega

theorem runCode_lt (r : RunState) : runCode r < 2 ^ 2 := by cases r <;> decide

theorem statusCode_lt (st : Status) : statusCode st < 2 ^ 2 := by cases st <;> decide

theorem errCode_lt (e : ErrStage) : errCode e < 2 ^ 4 := by cases e <;> decide

/-- A register held as a word of its width fits by its type, an enumerated one by its codes, and a length
by the invariant. -/
theorem regValue_lt {s : State} (h : StateInv s) (r : Reg) :
    regValue s r < 2 ^ regWidth s.cfg r := by
  have hmax := frameMax_lt s.cfg
  obtain ⟨h2o, h2l⟩ := h.pay2_le
  obtain ⟨h3o, h3l⟩ := h.pay3_le
  obtain ⟨-, -, ⟨hflen, hframe⟩, -⟩ := h
  cases r with
  | ctrl => exact Nat.two_pow_pos 1
  | state => exact runCode_lt _
  | status => exact statusCode_lt _
  | errStage => exact errCode_lt _
  | valid => exact s.valid_lt
  | flen => exact hflen.trans_lt hmax
  | frameLen => exact hframe.trans_lt hmax
  | pay2Off => exact h2o.trans_lt hmax
  | pay2Len => exact h2l.trans_lt hmax
  | pay3Off => exact h3o.trans_lt hmax
  | pay3Len => exact h3l.trans_lt hmax
  | dstMac | srcMac | dot1q | etype | l3Class | srcAddr | dstAddr | l4Class | arpOpcode | arpSmac
  | arpTmac | tcpSport | tcpDport | tcpSeq | tcpAck | tcpFlags | tcpWindow | udpSport | udpDport
  | udpLen | udpCsum | icmpType | icmpCode => exact BitVec.isLt _

theorem regTable_nodup : regTable.Nodup := by decide

theorem regOfNumber_eq_some {k : Nat} {r : Reg} (h : regOfNumber k = some r) :
    regTable[k]? = some (some r) :=
  Option.join_eq_some_iff.1 h

/-- The table names no register twice. -/
theorem regOfNumber_injective {k k' : Nat} {r : Reg} (h : regOfNumber k = some r)
    (h' : regOfNumber k' = some r) : k = k' := by
  have hk := regOfNumber_eq_some h
  have hlt : k < regTable.length := (List.getElem?_eq_some_iff.1 hk).1
  exact (List.getElem?_inj hlt regTable_nodup).1 (hk.trans (regOfNumber_eq_some h').symm)

/-- Settles O50: `regValue_lt` for the widths, `regOfNumber_injective` for the numbers. -/
theorem registersFitTheirWidths : Obligations.RegistersFitTheirWidths :=
  ⟨fun _ h => regValue_lt h, fun _ _ _ => regOfNumber_injective⟩

/-- Settles O51: the invariant, which the step keeps, says it of every state with STATUS = OK. -/
theorem recordShapeAfterOk : Obligations.RecordShapeAfterOk := by
  intro s t h hx hok
  obtain ⟨-, ⟨-, hoff, hview, -, haddr⟩, -⟩ := (stepKeepsInv s t h hx).ok hok
  refine ⟨fun h6 => ?_, fun h6 => ?_, hview⟩
  · obtain ⟨hsrc, hdst⟩ := haddr h6
    exact ⟨hsrc, hdst, by rw [hoff, if_neg h6]⟩
  · rw [hoff, if_pos h6]

/-! The frame buffer -/

theorem Memory.get?_eq_none {m : Memory} {i : Nat} (h : ∀ c ∈ m, i < c.1) :
    Memory.get? m i = none := by
  induction m with
  | nil => rfl
  | cons c m ih =>
    have hc : i ≠ c.1 := (h c List.mem_cons_self).ne
    rw [Memory.get?, if_neg hc]
    exact ih fun d hd => h d (List.mem_cons_of_mem _ hd)

/-- The first entry of a canonical buffer: nothing is written below it. -/
theorem Memory.head_le_of_get? {a i : Nat} {x b : Byte} {m : Memory}
    (h : Memory.wf ((a, x) :: m) = true) (hi : Memory.get? ((a, x) :: m) i = some b) : a ≤ i := by
  by_contra hlt
  obtain ⟨hm, -⟩ := (Memory.wf_cons_iff a x m).1 h
  have hnone : Memory.get? ((a, x) :: m) i = none :=
    Memory.get?_eq_none (List.forall_mem_cons.2 ⟨by simpa using hlt, fun c hc => by
      have := hm c hc; omega⟩)
  rw [hnone] at hi
  cases hi

theorem Memory.get?_head (a : Nat) (x : Byte) (m : Memory) :
    Memory.get? ((a, x) :: m) a = some x := if_pos rfl

/-- Equal contents are equal data: the first entries are both the lowest index written, and the rest agrees
by induction. -/
theorem Memory.ext_of_wf {m m' : Memory} (h : Memory.wf m = true) (h' : Memory.wf m' = true)
    (hget : ∀ i, Memory.get? m i = Memory.get? m' i) : m = m' := by
  induction m generalizing m' with
  | nil =>
    cases m' with
    | nil => rfl
    | cons c m' => cases (hget c.1).trans (Memory.get?_head c.1 c.2 m')
  | cons c m ih =>
    obtain ⟨a, x⟩ := c
    cases m' with
    | nil => cases (hget a).symm.trans (Memory.get?_head a x m)
    | cons c' m' =>
      obtain ⟨a', x'⟩ := c'
      have ha : a ≤ a' := Memory.head_le_of_get? h ((hget a').trans (Memory.get?_head a' x' m'))
      have ha' : a' ≤ a := Memory.head_le_of_get? h' ((hget a).symm.trans (Memory.get?_head a x m))
      obtain rfl : a = a' := le_antisymm ha ha'
      have hx := hget a
      rw [Memory.get?_head, Memory.get?_head] at hx
      cases hx
      obtain ⟨hm, hwf⟩ := (Memory.wf_cons_iff a x m).1 h
      obtain ⟨hm', hwf'⟩ := (Memory.wf_cons_iff a x m').1 h'
      refine congrArg _ (ih hwf hwf' fun i => ?_)
      by_cases hi : i = a
      · subst hi
        rw [Memory.get?_eq_none hm, Memory.get?_eq_none hm']
      · simpa [Memory.get?, hi] using hget i

/-- Settles O53: `Memory.set_wf` for the writes, `Memory.ext_of_wf` for the contents. -/
theorem bufferIsCanonical : Obligations.BufferIsCanonical :=
  ⟨fun _ i b h => Memory.set_wf i b h, fun _ _ => Memory.ext_of_wf⟩

end Sys2Proof.Machine
end

section
/-! The parser's operations answer wherever their views lie inside the frame (`20` R77, R113). -/

namespace Sys2Proof.Machine

theorem requireLen_total {len least : Nat} {e : ErrStage} {s : State} {k : Result}
    (hk : least ≤ len → ∃ t, k = .next t) : ∃ t, requireLen len least e s k = .next t := by
  rcases Nat.lt_or_ge len least with hl | hl
  · exact ⟨_, requireLen_short hl⟩
  · rw [requireLen_enough hl]
    exact hk hl

/-- A field that ends within the tested length of a view inside the frame can be read. -/
theorem readField_total {s : State} {base len least : Nat} {f : Slice} {k : Nat → Result}
    (hf : f.off + f.size ≤ least) (hl : least ≤ len)
    (hin : base + len ≤ s.frameLen ∧ s.frameLen ≤ s.cfg.frameMax)
    (hk : ∃ t, k (readBy (field s) base f) = .next t) : ∃ t, readField s base f k = .next t := by
  obtain ⟨hview, hmax⟩ := hin
  rw [readField_inside k (by omega) hmax]
  exact hk

theorem execEth_total {s : State} (hmax : s.frameLen ≤ s.cfg.frameMax) :
    ∃ t, exec .eth s = .next t :=
  have hin : 0 + s.frameLen ≤ s.frameLen ∧ s.frameLen ≤ s.cfg.frameMax := ⟨by omega, hmax⟩
  requireLen_total fun hl =>
    readField_total (by simp) hl hin <| readField_total (by simp) hl hin <|
      readField_total (by simp) hl hin <| readField_total (by simp) hl hin ⟨_, rfl⟩

theorem execNet4_total {s : State} (hin : Pay2Inside s) : ∃ t, exec .net4 s = .next t :=
  requireLen_total fun hl =>
    readField_total (by simp) hl hin <| readField_total (by simp) hl hin <|
      readField_total (by simp) hl hin ⟨_, rfl⟩

theorem execNet6_total {s : State} (hin : Pay2Inside s) : ∃ t, exec .net6 s = .next t :=
  requireLen_total fun hl =>
    readField_total (by simp) hl hin <| readField_total (by simp) hl hin <|
      readField_total (by simp) hl hin ⟨_, rfl⟩

theorem execNetarp_total {s : State} (hin : Pay2Inside s) : ∃ t, exec .netarp s = .next t :=
  requireLen_total fun hl =>
    readField_total (by simp) hl hin <| readField_total (by simp) hl hin ⟨_, rfl⟩

theorem execArpd_total {s : State} (hin : Pay2Inside s) : ∃ t, exec .arpd s = .next t :=
  requireLen_total fun hl =>
    readField_total (by simp) hl hin <| readField_total (by simp) hl hin <|
      readField_total (by simp) hl hin ⟨_, rfl⟩

theorem execTcpd_total {s : State} (hin : Pay3Inside s) : ∃ t, exec .tcpd s = .next t :=
  requireLen_total fun hl =>
    readField_total (by simp) hl hin <| readField_total (by simp) hl hin <|
      readField_total (by simp) hl hin <| readField_total (by simp) hl hin <|
        readField_total (by simp) hl hin <| readField_total (by simp) hl hin ⟨_, rfl⟩

theorem execUdpd_total {s : State} (hin : Pay3Inside s) : ∃ t, exec .udpd s = .next t :=
  requireLen_total fun hl =>
    readField_total (by simp) hl hin <| readField_total (by simp) hl hin <|
      readField_total (by simp) hl hin <| readField_total (by simp) hl hin ⟨_, rfl⟩

/-- ICMP_MIN_LEN is at least the two bytes that are read (`00` R8). -/
theorem execIcmpd_total {s : State} (hmin : 2 ≤ s.cfg.icmpMinLen) (hin : Pay3Inside s) :
    ∃ t, exec .icmpd s = .next t :=
  requireLen_total fun hl =>
    readField_total (by simp; omega) hl hin <| readField_total (by simpa using hmin) hl hin ⟨_, rfl⟩

/-- ICMP6_MIN_LEN is at least the two bytes that are read (`00` R8). -/
theorem execIcmp6d_total {s : State} (hmin : 2 ≤ s.cfg.icmp6MinLen) (hin : Pay3Inside s) :
    ∃ t, exec .icmp6d s = .next t :=
  requireLen_total fun hl =>
    readField_total (by simp; omega) hl hin <| readField_total (by simpa using hmin) hl hin ⟨_, rfl⟩

end Sys2Proof.Machine
end

section
/-! A whole decode (`47` R232, R246): from the state just after START, with the host quiet, the stages lead
to `decodedState`. -/

namespace Sys2Proof.Machine

/-! Ended states -/

/-- The decode in progress in `s` has ended with the outcome `o`. -/
def State.ended (s : State) (o : DecodeOutcome) : State :=
  { s with
    status := o.status, errStage := o.errStage, record := o.record, stage := .sEnd, runState := .done }

theorem decodedState_eq_ended (s : State) :
    decodedState s = s.ended (wholeDecode s.cfg s.frameLen (field s)) := rfl

theorem enterUnderflow_eq_ended (e : ErrStage) (s : State) :
    enterUnderflow e s = s.ended (outcomeUnderflow e) := rfl

theorem finish_eq_ended {s : State} (code : Status) (herr : s.errStage = .none) :
    finish code s = s.ended ⟨code, .none, s.record⟩ := by
  rw [← herr]
  rfl

@[simp] theorem State.setTcp_ended (s : State) (r : TcpRegs) (o : DecodeOutcome) :
    (s.setTcp r).ended o = s.ended o := rfl
@[simp] theorem State.setUdp_ended (s : State) (r : UdpRegs) (o : DecodeOutcome) :
    (s.setUdp r).ended o = s.ended o := rfl
@[simp] theorem State.setIcmp_ended (s : State) (r : IcmpRegs) (o : DecodeOutcome) :
    (s.setIcmp r).ended o = s.ended o := rfl

/-- The bytes of FB give the same fields. -/
theorem field_of_sameOutside {s t : State} (h : SameOutside s t) : field t = field s :=
  funext₂ fun _ _ => field_congr fun i _ _ => h.sameBytes i

/-! Steps with the host quiet -/

theorem takeMove_of_quiet {s : State} (h : s.host = []) : takeMove s = s := by
  rw [takeMove, h, List.tail_nil, ← h]
  rfl

theorem step_of_busy {s : State} (hbusy : s.runState = .busy) (hq : s.host = []) :
    step s = runSelector (stageSelector s) s := by
  have ht : turn s = .parser := by rw [turn, hq]; exact if_pos hbusy
  rw [step, ht]
  simp only [takeMove_of_quiet hq]

theorem step_of_free {s : State} (hfree : s.runState ≠ .busy) (hq : s.host = []) :
    step s = .next s := by
  have ht : turn s = .nobody := by rw [turn, hq]; exact if_neg hfree
  rw [step, ht]
  simp only [takeMove_of_quiet hq]

/-- Once ended, nothing happens. -/
theorem runSteps_of_free {s : State} (k : Nat) (hfree : s.runState ≠ .busy) (hq : s.host = []) :
    runSteps k s = .next s := by
  induction k with
  | zero => rfl
  | succ k ih => rw [runSteps_next k (step_of_free hfree hq), ih]

/-- The operation of the stage in progress ends the decode. -/
theorem runSteps_of_ended {s : State} {o : DecodeOutcome} (k : Nat) (hq : s.host = [])
    (h : step s = .next (s.ended o)) : runSteps (k + 1) s = .next (s.ended o) := by
  rw [runSteps_next k h]
  exact runSteps_of_free k nofun hq

theorem runSteps_of_underflow {s t : State} {e : ErrStage} (k : Nat) (hq : s.host = [])
    (hx : step s = .next t) (ht : t = enterUnderflow e s) :
    runSteps (k + 1) s = .next (s.ended (outcomeUnderflow e)) := by
  rw [ht, enterUnderflow_eq_ended] at hx
  exact runSteps_of_ended k hq hx

/-! The transport stage -/

/-- A transport operation that answers has ended the decode, with Underflow or with OK. -/
theorem Answers.ended {len least : Nat} {e : ErrStage} {s u t : State}
    (h : Answers len least e s (finish .ok u) t) (herr : u.errStage = .none)
    (hu : ∀ o, u.ended o = s.ended o) :
    t = s.ended (if len < least then outcomeUnderflow e else outcomeOk u.record) := by
  rcases h with ⟨hl, rfl⟩ | ⟨hl, rfl⟩
  · rw [if_pos hl, enterUnderflow_eq_ended]
  · rw [if_neg (by omega), finish_eq_ended .ok herr, hu]
    rfl

theorem xportOp_ends {s : State} (hok : s.cfg.ok) (hin : Pay3Inside s) (herr : s.errStage = .none) :
    exec (xportOp s.record.net.l4Class) s = .next (s.ended (wholeXport s.cfg (field s) s.record)) := by
  obtain ⟨-, ⟨hmin4, -⟩, hmin6, -⟩ := hok
  cases hc : s.record.net.l4Class with
  | unknown | arp =>
    simp only [wholeXport, hc]
    exact congrArg _ (finish_eq_ended .ok herr)
  | tcp =>
    obtain ⟨t, ht⟩ := execTcpd_total hin
    simp only [wholeXport, hc]
    exact ht.trans (congrArg _ ((execTcpd_answers ht).ended herr (s.setTcp_ended _)))
  | udp =>
    obtain ⟨t, ht⟩ := execUdpd_total hin
    simp only [wholeXport, hc]
    exact ht.trans (congrArg _ ((execUdpd_answers ht).ended herr (s.setUdp_ended _)))
  | icmp =>
    obtain ⟨t, ht⟩ := execIcmpd_total hmin4 hin
    simp only [wholeXport, hc]
    exact ht.trans (congrArg _ ((execIcmpd_answers ht).ended herr (s.setIcmp_ended _)))
  | icmpv6 =>
    obtain ⟨t, ht⟩ := execIcmp6d_total hmin6 hin
    simp only [wholeXport, hc]
    exact ht.trans (congrArg _ ((execIcmp6d_answers ht).ended herr (s.setIcmp_ended _)))

/-- A decode is at the stage `st`, with no error so far and no move of the host left. -/
abbrev AtStage (s : State) (st : Stage) : Prop :=
  s.runState = .busy ∧ s.host = [] ∧ s.errStage = .none ∧ s.cfg.ok ∧ s.stage = st

theorem AtStage.next {s t : State} {st st' : Stage} (h : AtStage s st) (hout : SameOutside s t)
    (hrun : SameRun s t) (hst : t.stage = st') : AtStage t st' := by
  obtain ⟨hbusy, hq, herr, hok, -⟩ := h
  obtain ⟨hcfg, -, -, -, hhost, -⟩ := hout
  obtain ⟨hrun, -, herr'⟩ := hrun
  exact ⟨hrun.trans hbusy, hhost.trans hq, herr'.trans herr, hcfg ▸ hok, hst⟩

theorem runSteps_sXport {s : State} (k : Nat) (h : AtStage s .sXport) (hin : Pay3Inside s) :
    runSteps (k + 1) s = .next (s.ended (wholeXport s.cfg (field s) s.record)) := by
  obtain ⟨hbusy, hq, herr, hok, hst⟩ := h
  refine runSteps_of_ended k hq ?_
  rw [step_of_busy hbusy hq, runStage_sXport hst]
  exact xportOp_ends hok hin herr

/-! The network stage -/

/-- What is left of the decode after ETH (`47` R246), for the class in L3_CLASS. -/
def netOutcome (s : State) : DecodeOutcome :=
  let len := s.record.eth.pay2Len
  let xport := wholeXport s.cfg (field s)
  match s.record.eth.l3Class with
  | .unknown => ⟨.l3Unknown, .none, s.record⟩
  | .ipv4 =>
    if len < 20 then outcomeUnderflow .net4 else xport { s.record with net := net4Regs s }
  | .ipv6 =>
    if len < 40 then outcomeUnderflow .net6 else xport { s.record with net := net6Regs s }
  | .arp =>
    if len < 20 then outcomeUnderflow .netarp
    else if len < 24 then outcomeUnderflow .arpd
    else outcomeOk { s.record with net := netarpRegs s, arp := arpdRegs s }

/-- NET4 and NET6, and the transport operation after them. -/
theorem Answers.runSteps_net {s t : State} {src dst : Slice} {cls : L4Class} {n : Nat} {e : ErrStage}
    (k : Nat) (h : AtStage s .sNet) (hin : Pay2Inside s) (hx : step s = .next t)
    (ha : Answers s.record.eth.pay2Len n e s ((s.setNet (netRegs s src dst cls n)).setStage .sXport) t) :
    runSteps (k + 2) s = .next (s.ended (if s.record.eth.pay2Len < n then outcomeUnderflow e
      else wholeXport s.cfg (field s) { s.record with net := netRegs s src dst cls n })) := by
  rcases ha with ⟨hl, ht⟩ | ⟨hl, ht⟩
  · obtain ⟨-, hq, -⟩ := h
    rw [if_pos hl]
    exact runSteps_of_underflow (k + 1) hq hx ht
  · obtain ⟨hout, hrun, hst, -⟩ := setNet_frame ht
    have hin' : Pay3Inside t := by
      obtain ⟨hview, hmax⟩ := hin
      rw [Pay3Inside, ht]
      refine ⟨?_, hmax⟩
      show s.record.eth.pay2Off + n + (s.record.eth.pay2Len - n) ≤ s.frameLen
      omega
    rw [runSteps_next (k + 1) hx, runSteps_sXport k (h.next hout hrun hst) hin',
      field_of_sameOutside hout, ht, if_neg (by omega)]
    rfl

/-- ARPD, and XNONE after it. -/
theorem runSteps_sArpd {s : State} (k : Nat) (h : AtStage s .sArpd) (hin : Pay2Inside s)
    (hin' : Pay3Inside s) (hc : s.record.net.l4Class = .arp) :
    runSteps (k + 2) s = .next (s.ended (if s.record.eth.pay2Len < 24 then outcomeUnderflow .arpd
      else outcomeOk { s.record with arp := arpdRegs s })) := by
  obtain ⟨t, hx⟩ := execArpd_total hin
  have hstep : step s = .next t := by
    obtain ⟨hbusy, hq, -, -, hst⟩ := h
    rw [step_of_busy hbusy hq, runStage_sArpd hst, hx]
  rcases execArpd_answers hx with ⟨hl, ht⟩ | ⟨hl, ht⟩
  · obtain ⟨-, hq, -⟩ := h
    rw [if_pos hl]
    exact runSteps_of_underflow (k + 1) hq hstep ht
  · obtain ⟨hout, hrun, hst, -⟩ := setArp_frame ht
    have hX : wholeXport t.cfg (field t) t.record = outcomeOk t.record := by
      have hc' : t.record.net.l4Class = .arp := by rw [ht]; exact hc
      simp only [wholeXport, hc']
    have hin3 : Pay3Inside t := by rw [ht]; exact hin'
    rw [runSteps_next (k + 1) hstep, runSteps_sXport k (h.next hout hrun hst) hin3, hX, ht,
      if_neg (by omega)]
    rfl

/-- NETARP, and ARPD and XNONE after it. -/
theorem runSteps_netarp {s : State} (k : Nat) (h : AtStage s .sNet) (hin : Pay2Inside s)
    (hc : s.record.eth.l3Class = .arp) :
    runSteps (k + 3) s = .next (s.ended (netOutcome s)) := by
  obtain ⟨t, hx⟩ := execNetarp_total hin
  have hstep : step s = .next t := by
    obtain ⟨hbusy, hq, -, -, hst⟩ := h
    rw [step_of_busy hbusy hq, runStage_sNet hst, hc]
    exact hx
  simp only [netOutcome, hc]
  rcases execNetarp_answers hx with ⟨hl, ht⟩ | ⟨hl, ht⟩
  · obtain ⟨-, hq, -⟩ := h
    rw [if_pos hl]
    exact runSteps_of_underflow (k + 2) hq hstep ht
  · obtain ⟨hout, hrun, hst, heth, -⟩ := setNet_frame ht
    have hin2 : Pay2Inside t := by rw [ht]; exact hin
    have hin3 : Pay3Inside t := by
      obtain ⟨hview, hmax⟩ := hin
      rw [Pay3Inside, ht]
      refine ⟨?_, hmax⟩
      show s.record.eth.pay2Off + 20 + (s.record.eth.pay2Len - 20) ≤ s.frameLen
      omega
    have hregs : arpdRegs t = arpdRegs s := by
      unfold arpdRegs
      rw [field_of_sameOutside hout, heth, hout.cfg_eq]
    rw [runSteps_next (k + 2) hstep,
      runSteps_sArpd k (h.next hout hrun hst) hin2 hin3 (by rw [ht]; rfl), hregs, heth, ht,
      if_neg (by omega : ¬ s.record.eth.pay2Len < 20)]
    rfl

theorem runSteps_sNet {s : State} (h : AtStage s .sNet) (hin : Pay2Inside s) :
    runSteps 3 s = .next (s.ended (netOutcome s)) := by
  have hstep : ∀ t, exec (netOp s.record.eth.l3Class) s = .next t → step s = .next t := by
    intro t hx
    obtain ⟨hbusy, hq, -, -, hst⟩ := h
    rw [step_of_busy hbusy hq, runStage_sNet hst, hx]
  cases hc : s.record.eth.l3Class with
  | arp => exact runSteps_netarp 0 h hin hc
  | unknown =>
    obtain ⟨-, hq, herr, -⟩ := h
    simp only [netOutcome, hc]
    refine runSteps_of_ended 2 hq (hstep _ ?_)
    rw [hc]
    exact congrArg _ (finish_eq_ended .l3Unknown herr)
  | ipv4 =>
    obtain ⟨t, hx⟩ := execNet4_total hin
    simp only [netOutcome, hc]
    exact (execNet4_answers hx).runSteps_net 1 h hin (hstep t (hc ▸ hx))
  | ipv6 =>
    obtain ⟨t, hx⟩ := execNet6_total hin
    simp only [netOutcome, hc]
    exact (execNet6_answers hx).runSteps_net 1 h hin (hstep t (hc ▸ hx))

/-! The whole decode -/

/-- The state after a successful ETH. -/
def afterEth (s : State) : State :=
  (s.setEth (wholeEth s.cfg s.frameLen (field s))).setStage .sNet

theorem afterEth_sameOutside (s : State) : SameOutside s (afterEth s) :=
  (setEth_sameOutside s _).trans (setStage_sameOutside _ _)

/-- Beyond the header length the decode function is what is left after ETH. -/
theorem wholeDecode_eq_netOutcome {s : State} (hzero : s.record = Record.zero) (h : 18 ≤ s.frameLen) :
    wholeDecode s.cfg s.frameLen (field s) = netOutcome (afterEth s) := by
  have hlen : ¬ s.frameLen < s.cfg.ethHdrLen := by simpa using h
  have hrec : (afterEth s).record =
      { Record.zero with eth := wholeEth s.cfg s.frameLen (field s) } := by
    rw [← hzero]
    rfl
  have hfield : field (afterEth s) = field s := field_of_sameOutside (afterEth_sameOutside s)
  rw [wholeDecode, if_neg hlen, netOutcome, hfield, hrec]
  cases hc : (wholeEth s.cfg s.frameLen (field s)).l3Class with
  | unknown => simp only [hc]
  | ipv4 =>
    simp only [hc, net4Regs, netRegs, protoClass, hfield]
    rfl
  | ipv6 =>
    simp only [hc, net6Regs, netRegs, protoClass, hfield]
    rfl
  | arp =>
    simp only [hc, netarpRegs, arpdRegs, netRegs, hfield]
    rfl

/-- ETH and at most three more stages. -/
theorem runSteps_decode {s : State} (h : DecodeBegins s) : runSteps 4 s = .next (decodedState s) := by
  obtain ⟨hbusy, hst, -, herr, hzero, hq, hmax, hok⟩ := h
  obtain ⟨t, hx⟩ := execEth_total hmax
  have hstep : step s = .next t := by rw [step_of_busy hbusy hq, runStage_sEth hst, hx]
  rw [decodedState_eq_ended]
  rcases execEth_answers hx with ⟨hl, ht⟩ | ⟨hl, ht⟩
  · have hshort : s.frameLen < s.cfg.ethHdrLen := by simpa using hl
    rw [wholeDecode, if_pos hshort]
    exact runSteps_of_underflow 3 hq hstep ht
  · obtain ⟨hout, hrun, hst', -⟩ := setEth_frame ht
    have hat : AtStage t .sNet :=
      AtStage.next (st := .sEth) ⟨hbusy, hq, herr, hok, hst⟩ hout hrun hst'
    have hin : Pay2Inside t := by
      rw [Pay2Inside, ht]
      refine ⟨?_, hmax⟩
      show 18 + (s.frameLen - 18) ≤ s.frameLen
      omega
    rw [runSteps_next 3 hstep, runSteps_sNet hat hin, wholeDecode_eq_netOutcome hzero hl, ht]
    rfl

end Sys2Proof.Machine
end

section
/-! The result of a decode is a function of the frame (`10` R46, `47` R244): the decode function reads no
byte at or beyond the frame's length. -/

namespace Sys2Proof.Machine

/-- `B` and `B'` read the same value wherever the bytes lie in a frame of `n` bytes. -/
abbrev SameReads (n : Nat) (B B' : Nat → Nat → Nat) : Prop := ∀ a k, a + k ≤ n → B a k = B' a k

theorem readBy_congr {n base least : Nat} {f : Slice} {B B' : Nat → Nat → Nat} (h : SameReads n B B')
    (hf : f.off + f.size ≤ least) (hin : base + least ≤ n) : readBy B base f = readBy B' base f :=
  h _ _ (by omega)

theorem wholeEth_congr {n : Nat} {B B' : Nat → Nat → Nat} (p : Params) (h : SameReads n B B')
    (hn : 18 ≤ n) : wholeEth p.config n B = wholeEth p.config n B' := by
  have hread : ∀ f : Slice, f.off + f.size ≤ 18 → readBy B 0 f = readBy B' 0 f := fun f hf =>
    readBy_congr h hf (by omega)
  unfold wholeEth
  rw [hread p.config.ethOffDst (by simp), hread p.config.ethOffSrc (by simp),
    hread p.config.ethOffTag (by simp), hread p.config.ethOffEtype (by simp)]

theorem wholeXport_congr {n : Nat} {B B' : Nat → Nat → Nat} {p : Params} {r : Record}
    (hok : p.config.ok) (h : SameReads n B B') (hin : r.net.pay3Off + r.net.pay3Len ≤ n) :
    wholeXport p.config B r = wholeXport p.config B' r := by
  have hread : ∀ (least : Nat) (f : Slice), f.off + f.size ≤ least → ¬ r.net.pay3Len < least →
      readBy B r.net.pay3Off f = readBy B' r.net.pay3Off f := fun least f hf hl =>
    readBy_congr h hf (by omega)
  obtain ⟨-, ⟨hmin4, -⟩, hmin6, -⟩ := hok
  unfold wholeXport
  cases hc : r.net.l4Class with
  | unknown | arp => rfl
  | tcp =>
    refine ite_congr rfl (fun _ => rfl) fun hl => ?_
    rw [hread _ p.config.tcpOffSport (by simp) hl, hread _ p.config.tcpOffDport (by simp) hl,
      hread _ p.config.tcpOffSeq (by simp) hl, hread _ p.config.tcpOffAck (by simp) hl,
      hread _ p.config.tcpOffFlags (by simp) hl, hread _ p.config.tcpOffWindow (by simp) hl]
  | udp =>
    refine ite_congr rfl (fun _ => rfl) fun hl => ?_
    rw [hread _ p.config.udpOffSport (by simp) hl, hread _ p.config.udpOffDport (by simp) hl,
      hread _ p.config.udpOffLen (by simp) hl, hread _ p.config.udpOffCsum (by simp) hl]
  | icmp =>
    refine ite_congr rfl (fun _ => rfl) fun hl => ?_
    rw [hread _ p.config.icmpOffType (by simp; omega) hl,
      hread _ p.config.icmpOffCode (by simpa using hmin4) hl]
  | icmpv6 =>
    refine ite_congr rfl (fun _ => rfl) fun hl => ?_
    rw [hread _ p.config.icmpOffType (by simp; omega) hl,
      hread _ p.config.icmpOffCode (by simpa using hmin6) hl]

theorem wholeDecode_congr {n : Nat} {B B' : Nat → Nat → Nat} {p : Params} (hok : p.config.ok)
    (h : SameReads n B B') : wholeDecode p.config n B = wholeDecode p.config n B' := by
  unfold wholeDecode
  refine ite_congr rfl (fun _ => rfl) fun hshort => ?_
  have hread : ∀ (least : Nat) (f : Slice), f.off + f.size ≤ least →
      ¬ n - p.config.ethHdrLen < least →
      readBy B p.config.ethHdrLen f = readBy B' p.config.ethHdrLen f := fun least f hf hl =>
    readBy_congr h hf (by omega)
  rw [wholeEth_congr p h (by simpa using hshort)]
  cases hc : (wholeEth p.config n B').l3Class with
  | unknown => simp only [hc]
  | ipv4 =>
    simp only [hc]
    refine ite_congr rfl (fun _ => rfl) fun hl => ?_
    rw [hread _ p.config.ipv4OffSrc (by simp) hl, hread _ p.config.ipv4OffDst (by simp) hl,
      hread _ p.config.ipv4OffProto (by simp) hl]
    exact wholeXport_congr hok h (by dsimp only; omega)
  | ipv6 =>
    simp only [hc]
    refine ite_congr rfl (fun _ => rfl) fun hl => ?_
    rw [hread _ p.config.ipv6OffSrc (by simp) hl, hread _ p.config.ipv6OffDst (by simp) hl,
      hread _ p.config.ipv6OffNh (by simp) hl]
    exact wholeXport_congr hok h (by dsimp only; omega)
  | arp =>
    simp only [hc]
    refine ite_congr rfl (fun _ => rfl) fun hl => ite_congr rfl (fun _ => rfl) fun hl' => ?_
    rw [hread _ p.config.arpnetOffSrc (by simp) hl, hread _ p.config.arpnetOffDst (by simp) hl,
      hread _ p.config.arpOffOpcode (by simp) hl', hread _ p.config.arpOffSmac (by simp) hl',
      hread _ p.config.arpOffTmac (by simp) hl']

/-! From the host's START to the result -/

/-- The state in which a START that is pending has been accepted. -/
def started (s : State) : State := (takeMove s).beginDecode

theorem step_start {s : State} (h : StartPending s) : step s = .next (started s) := by
  obtain ⟨hfree, hhost, -, -⟩ := h
  have hfree' : (takeMove s).runState ≠ .busy := hfree
  calc step s = exec .start (takeMove s) := step_ctrl_odd hhost rfl
    _ = .next (unlessBusy (takeMove s) (started s)) := rfl
    _ = .next (started s) := by rw [unlessBusy_free _ hfree']

theorem started_begins {s : State} (h : StartPending s) : DecodeBegins (started s) := by
  obtain ⟨-, hhost, hflen, hok⟩ := h
  have hq : (started s).host = [] := congrArg List.tail hhost
  exact ⟨rfl, rfl, rfl, rfl, rfl, hq, hflen, hok⟩

/-- START and the four stages. -/
theorem runSteps_start {s : State} (h : StartPending s) :
    runSteps 5 s = .next (decodedState (started s)) := by
  rw [runSteps_next 4 (step_start h)]
  exact runSteps_decode (started_begins h)

theorem started_field (s : State) : field (started s) = field s :=
  funext₂ fun _ _ => field_congr fun _ _ _ => fbByte_congr rfl rfl _

/-- The outcome of the decode that a pending START begins. -/
theorem decodedState_started (s : State) :
    decodedState (started s) = (started s).ended (wholeDecode s.cfg s.flen (field s)) := by
  rw [← started_field s]
  rfl

/-- Settles O56: the two decodes have one outcome, since the fields they read are the same. -/
theorem resultDependsOnFrameOnly : Obligations.ResultDependsOnFrameOnly := by
  intro s s' h h' hcfg hflen hbytes
  have hok : s.cfg.ok := by
    obtain ⟨-, -, -, hok⟩ := h
    exact hok
  have hreads : SameReads s.flen (field s') (field s) := fun a k hin =>
    field_congr fun i _ hi => hbytes i (by omega)
  have hout : wholeDecode s'.cfg s'.flen (field s') = wholeDecode s.cfg s.flen (field s) := by
    rw [hcfg, hflen]
    exact wholeDecode_congr (p := s.params) hok hreads
  refine ⟨_, _, runSteps_start h, runSteps_start h', rfl, rfl, ?_⟩
  rw [decodedState_started, decodedState_started, hout]
  exact ⟨rfl, rfl, hflen, rfl⟩

end Sys2Proof.Machine
end

section
/-! The frame buffer and the decode (`20` R76, R77, R85): what a port access does, that no step stops, and
that a decode repeated over the same buffer ends in the same state. -/

namespace Sys2Proof.Machine

/-! Port accesses -/

/-- A write to the frame space answers, and while BUSY it has no effect. -/
theorem runWriteFrame_unlessBusy (s : State) (i : Nat) (b : Byte) :
    ∃ u, runSelector (.port (.writeFrame i b)) s = .next (unlessBusy s u) := ⟨_, rfl⟩

/-- A register write begins a decode, writes FLEN or does nothing; while BUSY it has no effect. -/
theorem runWriteReg_unlessBusy (s : State) (k v : Nat) :
    ∃ u, runSelector (.port (.writeReg k v)) s = .next (unlessBusy s u) := by
  have hnothing : unlessBusy s s = s := ite_self s
  simp only [runSelector, decode, decodePort, decodeCtrl]
  split_ifs with hctrl hodd hflen
  · exact ⟨s.beginDecode, rfl⟩
  · exact ⟨s, congrArg _ hnothing.symm⟩
  · exact ⟨s.setFlen (v % 2 ^ s.cfg.lenW), rfl⟩
  · exact ⟨s, congrArg _ hnothing.symm⟩

/-- Settles O45: what either write would do stands under `unlessBusy`. -/
theorem busyLocksHostWrites : Obligations.BusyLocksHostWrites := by
  intro s rest i v k b hbusy hhost
  have hbusy' : (takeMove s).runState = .busy := hbusy
  rcases hhost with hframe | hreg
  · obtain ⟨u, hu⟩ := runWriteFrame_unlessBusy (takeMove s) i b
    rw [step_port hframe, hu, unlessBusy_busy u hbusy']
  · obtain ⟨u, hu⟩ := runWriteReg_unlessBusy (takeMove s) k v
    rw [step_port hreg, hu, unlessBusy_busy u hbusy']

theorem runPort_total (r : PortReq) (s : State) : ∃ t, runSelector (.port r) s = .next t := by
  cases r with
  | writeFrame i b =>
    obtain ⟨u, hu⟩ := runWriteFrame_unlessBusy s i b
    exact ⟨_, hu⟩
  | writeReg k v =>
    obtain ⟨u, hu⟩ := runWriteReg_unlessBusy s k v
    exact ⟨_, hu⟩
  | readReg k => exact ⟨readRegister s k, rfl⟩

/-! The stages -/

theorem EthDone.pay2Inside {s : State} (hE : EthDone s) (hmax : s.frameLen ≤ s.cfg.frameMax) :
    Pay2Inside s := by
  obtain ⟨-, hview, -⟩ := hE
  exact ⟨hview.le, hmax⟩

theorem NetDone.pay3Inside {s : State} (hN : NetDone s) (hmax : s.frameLen ≤ s.cfg.frameMax) :
    Pay3Inside s := by
  obtain ⟨-, -, hview, -⟩ := hN
  exact ⟨hview.le, hmax⟩

theorem execNetOp_total {s : State} (hin : Pay2Inside s) (c : L3Class) :
    ∃ t, exec (netOp c) s = .next t := by
  cases c with
  | unknown => exact ⟨finish .l3Unknown s, rfl⟩
  | ipv4 => exact execNet4_total hin
  | ipv6 => exact execNet6_total hin
  | arp => exact execNetarp_total hin

/-- The invariant puts the view of the stage in progress inside the frame, and S_END out of BUSY. -/
theorem runStage_total {s : State} (h : StateInv s) (hbusy : s.runState = .busy) :
    ∃ t, runSelector (stageSelector s) s = .next t := by
  obtain ⟨⟨hok, -, -, hmax⟩, -, herr, hstage⟩ := (stateInv_iff_of_busy hbusy).1 h
  cases hst : s.stage with
  | sEth =>
    rw [runStage_sEth hst]
    exact execEth_total hmax
  | sNet =>
    rw [hst] at hstage
    obtain ⟨hE, -⟩ := hstage
    rw [runStage_sNet hst]
    exact execNetOp_total (hE.pay2Inside hmax) _
  | sArpd =>
    rw [hst] at hstage
    obtain ⟨hE, -⟩ := hstage
    rw [runStage_sArpd hst]
    exact execArpd_total (hE.pay2Inside hmax)
  | sXport =>
    rw [hst] at hstage
    obtain ⟨-, hN, -⟩ := hstage
    rw [runStage_sXport hst]
    exact ⟨_, xportOp_ends hok (hN.pay3Inside hmax) herr⟩
  | sEnd =>
    rw [hst] at hstage
    exact hstage.elim

/-- Settles O6, by whose turn the step is. -/
theorem stepNeverStops : Obligations.StepNeverStops := by
  intro s h
  cases hturn : turn s with
  | reset => exact ⟨hardReset (takeMove s), by rw [step, hturn]⟩
  | host r =>
    rw [step, hturn]
    exact runPort_total r (takeMove s)
  | parser =>
    have hbusy : s.runState = .busy := busy_of_turn_parser hturn
    rw [step, hturn]
    exact runStage_total (takeMove_inv h) hbusy
  | nobody => exact ⟨takeMove s, by rw [step, hturn]⟩

/-! Repeating a decode -/

/-- START overwrites all that a decode has written, so the same START gives the same state again. -/
theorem started_again (s : State) : started ((decodedState (started s)).setHost s.host) = started s := rfl

theorem startPending_again {s : State} (h : StartPending s) :
    StartPending ((decodedState (started s)).setHost s.host) := by
  obtain ⟨-, hhost, hflen, hok⟩ := h
  exact ⟨nofun, hhost, hflen, hok⟩

/-- Settles O57: both decodes begin in the same state. -/
theorem repeatedDecodeIsIdentical : Obligations.RepeatedDecodeIsIdentical := by
  intro s t h ht
  rw [runSteps_start h] at ht
  cases ht
  rw [runSteps_start (startPending_again h), started_again]

end Sys2Proof.Machine
end

section
/-! The decoder and the encoder (`30` R109 to R112, R117): what each format decodes to, said once in
`decode_eq_ok_iff`, and the claims that follow. -/

namespace Sys2Proof.Machine

/-! The rows of a selector table -/

/-- A row whose mask keeps every bit is selected by its pattern alone. -/
theorem firstRow_exact {w : Nat} {m : BitVec w} (hm : m = BitVec.allOnes w) (p v : BitVec w)
    (op : BitVec w → Instr) (rows : List (SelRow w)) :
    firstRow (⟨m, p, op⟩ :: rows) v = if v = p then some (op v) else firstRow rows v := by
  rw [firstRow, hm, BitVec.and_allOnes]

/-- A default row is selected by every value. -/
theorem firstRow_default {w : Nat} (v : BitVec w) (op : BitVec w → Instr) (rows : List (SelRow w)) :
    firstRow (⟨0#w, 0#w, op⟩ :: rows) v = some (op v) := by
  rw [firstRow, BitVec.and_zero, if_pos rfl]

/-! The dispatchers' rows, by the class they store -/

/-- The row of the layer-3 dispatcher that the ethertype `e` selects, by its class (`41` R151 to R154). -/
def l3dRow (e : BitVec 16) : L3Class → Instr
  | .ipv4 => .l3dIpv4 | .arp => .l3dArp | .ipv6 => .l3dIpv6 | .unknown => .l3dUnknown e

/-- The row of the layer-4 dispatcher that the byte `p` selects, by its class (`43` R181 to R185). L4D
never gives the class ARP (`l4d_ne_arp`). -/
def l4dRow (p : BitVec 8) : L4Class → Instr
  | .tcp => .l4dTcp | .udp => .l4dUdp | .icmp => .l4dIcmp | .icmpv6 => .l4dIcmp6
  | .unknown | .arp => .l4dUnknown p

/-- What L3D can answer, and for which ethertypes. -/
theorem l3d_cases (c : Config) (e : BitVec 16) :
    (l3d c e = .ipv4 ∧ e = c.etypeIpv4) ∨ (l3d c e = .arp ∧ e = c.etypeArp) ∨
    (l3d c e = .ipv6 ∧ e = c.etypeIpv6) ∨
    (l3d c e = .unknown ∧ e ≠ c.etypeIpv4 ∧ e ≠ c.etypeArp ∧ e ≠ c.etypeIpv6) := by
  unfold l3d
  split_ifs with h4 ha h6
  · exact .inl ⟨rfl, h4⟩
  · exact .inr (.inl ⟨rfl, ha⟩)
  · exact .inr (.inr (.inl ⟨rfl, h6⟩))
  · exact .inr (.inr (.inr ⟨rfl, h4, ha, h6⟩))

/-- What L4D can answer, and for which bytes. -/
theorem l4d_cases (c : Config) (p : BitVec 8) :
    (l4d c p = .tcp ∧ p = c.protoTcp) ∨ (l4d c p = .udp ∧ p = c.protoUdp) ∨
    (l4d c p = .icmp ∧ p = c.protoIcmp) ∨ (l4d c p = .icmpv6 ∧ p = c.protoIcmp6) ∨
    (l4d c p = .unknown ∧ p ≠ c.protoTcp ∧ p ≠ c.protoUdp ∧ p ≠ c.protoIcmp ∧ p ≠ c.protoIcmp6) := by
  unfold l4d
  split_ifs with ht hu hi hi6
  · exact .inl ⟨rfl, ht⟩
  · exact .inr (.inl ⟨rfl, hu⟩)
  · exact .inr (.inr (.inl ⟨rfl, hi⟩))
  · exact .inr (.inr (.inr (.inl ⟨rfl, hi6⟩)))
  · exact .inr (.inr (.inr (.inr ⟨rfl, ht, hu, hi, hi6⟩)))

/-- The default row of the layer-3 dispatcher can carry exactly the ethertypes of the class UNKNOWN. -/
theorem l3dUnknown_wf_iff (c : Config) (e : BitVec 16) :
    (Instr.l3dUnknown e).wf c = true ↔ l3d c e = .unknown := by
  rcases l3d_cases c e with ⟨hl, he⟩ | ⟨hl, he⟩ | ⟨hl, he⟩ | ⟨hl, h4, ha, h6⟩
  · simp [Instr.wf, hl, ← he]
  · simp [Instr.wf, hl, ← he]
  · simp [Instr.wf, hl, ← he]
  · simp [Instr.wf, hl, h4, ha, h6]

/-- The default row of the layer-4 dispatcher can carry exactly the bytes of the class UNKNOWN. -/
theorem l4dUnknown_wf_iff (c : Config) (p : BitVec 8) :
    (Instr.l4dUnknown p).wf c = true ↔ l4d c p = .unknown := by
  rcases l4d_cases c p with ⟨hl, hp⟩ | ⟨hl, hp⟩ | ⟨hl, hp⟩ | ⟨hl, hp⟩ | ⟨hl, ht, hu, hi, hi6⟩
  · simp [Instr.wf, hl, ← hp]
  · simp [Instr.wf, hl, ← hp]
  · simp [Instr.wf, hl, ← hp]
  · simp [Instr.wf, hl, ← hp]
  · simp [Instr.wf, hl, ht, hu, hi, hi6]

theorem l3dRow_wf (c : Config) (e : BitVec 16) : (l3dRow e (l3d c e)).wf c = true := by
  cases hl : l3d c e with
  | unknown => exact (l3dUnknown_wf_iff c e).2 hl
  | ipv4 | arp | ipv6 => rfl

theorem l4dRow_wf (c : Config) (p : BitVec 8) : (l4dRow p (l4d c p)).wf c = true := by
  cases hl : l4d c p with
  | unknown => exact (l4dUnknown_wf_iff c p).2 hl
  | arp => exact absurd hl (l4d_ne_arp c p)
  | tcp | udp | icmp | icmpv6 => rfl

theorem encode_l3dRow (c : Config) (e : BitVec 16) : encode c (l3dRow e (l3d c e)) = .etype16 e := by
  rcases l3d_cases c e with ⟨hl, he⟩ | ⟨hl, he⟩ | ⟨hl, he⟩ | ⟨hl, -⟩
  · rw [hl, he]; rfl
  · rw [hl, he]; rfl
  · rw [hl, he]; rfl
  · rw [hl]; rfl

theorem encode_l4dRow (c : Config) (p : BitVec 8) : encode c (l4dRow p (l4d c p)) = .proto8 p := by
  rcases l4d_cases c p with ⟨hl, hp⟩ | ⟨hl, hp⟩ | ⟨hl, hp⟩ | ⟨hl, hp⟩ | ⟨hl, -⟩
  · rw [hl, hp]; rfl
  · rw [hl, hp]; rfl
  · rw [hl, hp]; rfl
  · rw [hl, hp]; rfl
  · rw [hl]; rfl

/-! What each format decodes to -/

/-- The rows of ETYPE16 are tried in the order in which L3D compares (`30` R109, `41` R150). -/
theorem decode_etype16 (c : Config) (e : BitVec 16) :
    decode c (.etype16 e) = .ok (l3dRow e (l3d c e)) := by
  simp only [decode, etype16Rows, firstRow_exact (m := 0xFFFF#16) rfl, firstRow_default, l3d]
  split_ifs <;> rfl

/-- The rows of PROTO8 are tried in the order in which L4D compares (`30` R110, `43` R180). -/
theorem decode_proto8 (c : Config) (p : BitVec 8) :
    decode c (.proto8 p) = .ok (l4dRow p (l4d c p)) := by
  simp only [decode, proto8Rows, firstRow_exact (m := 0xFF#8) rfl, firstRow_default, l4d]
  split_ifs <;> rfl

theorem decode_l3class (c : Config) (cls : L3Class) :
    decode c (.l3class (l3Code cls)) = .ok (netOp cls) := by
  cases cls <;> rfl

theorem decode_l4class (c : Config) (cls : L4Class) :
    decode c (.l4class (l4Code cls)) = .ok (xportOp cls) := by
  cases cls <;> rfl

/-- Every code of two bits is the code of a class (`10` R35). -/
theorem l3Code_surjective : Function.Surjective l3Code := by
  intro v
  have hv : v = 0#2 ∨ v = 1#2 ∨ v = 2#2 ∨ v = 3#2 := by revert v; decide
  rcases hv with rfl | rfl | rfl | rfl
  · exact ⟨.unknown, rfl⟩
  · exact ⟨.ipv4, rfl⟩
  · exact ⟨.ipv6, rfl⟩
  · exact ⟨.arp, rfl⟩

/-- Every code of three bits is the code of a class but 6 and 7 (`10` R38). -/
theorem l4Code_or_reserved (v : BitVec 3) : (v = 6#3 ∨ v = 7#3) ∨ ∃ cls, l4Code cls = v := by
  have hv : (v = 6#3 ∨ v = 7#3) ∨ v = 0#3 ∨ v = 1#3 ∨ v = 2#3 ∨ v = 3#3 ∨ v = 4#3 ∨ v = 5#3 := by
    revert v; decide
  rcases hv with hres | rfl | rfl | rfl | rfl | rfl | rfl
  · exact .inl hres
  · exact .inr ⟨.unknown, rfl⟩
  · exact .inr ⟨.tcp, rfl⟩
  · exact .inr ⟨.udp, rfl⟩
  · exact .inr ⟨.icmp, rfl⟩
  · exact .inr ⟨.icmpv6, rfl⟩
  · exact .inr ⟨.arp, rfl⟩

/-- The selectors that name an operation, one constructor per format and port access. -/
inductive Decodes (c : Config) : Selector → Instr → Prop
  | stageEth : Decodes c (.stage .sEth) .eth
  | stageArpd : Decodes c (.stage .sArpd) .arpd
  | etype16 (e : BitVec 16) : Decodes c (.etype16 e) (l3dRow e (l3d c e))
  | l3class (cls : L3Class) : Decodes c (.l3class (l3Code cls)) (netOp cls)
  | proto8 (p : BitVec 8) : Decodes c (.proto8 p) (l4dRow p (l4d c p))
  | l4class (cls : L4Class) : Decodes c (.l4class (l4Code cls)) (xportOp cls)
  | ctrl (v : Nat) : Decodes c (.port (.writeReg 0 v)) (decodeCtrl v)
  | flen (v : Nat) : Decodes c (.port (.writeReg 4 v)) (.wflen (v % 2 ^ c.lenW))
  | frame (i : Nat) (b : Byte) : Decodes c (.port (.writeFrame i b)) (.wfb (i % 2 ^ c.lenW) b)
  | read (k : Nat) : Decodes c (.port (.readReg k)) (.rreg k)

theorem Decodes.decode_eq {c : Config} {sel : Selector} {i : Instr} (h : Decodes c sel i) :
    decode c sel = .ok i := by
  cases h with
  | etype16 e => exact decode_etype16 c e
  | l3class cls => exact decode_l3class c cls
  | proto8 p => exact decode_proto8 c p
  | l4class cls => exact decode_l4class c cls
  | stageEth | stageArpd | ctrl v | flen v | frame i b | read k => rfl

theorem decodes_stage {c : Config} {st : Stage} {i : Instr} (h : decode c (.stage st) = .ok i) :
    Decodes c (.stage st) i := by
  cases st with
  | sEth => cases h; exact .stageEth
  | sArpd => cases h; exact .stageArpd
  | sNet | sXport | sEnd => cases h

theorem decodes_l4class {c : Config} {v : BitVec 3} {i : Instr} (h : decode c (.l4class v) = .ok i) :
    Decodes c (.l4class v) i := by
  rcases l4Code_or_reserved v with hres | ⟨cls, rfl⟩
  · rw [decode, if_pos hres] at h
    cases h
  · rw [decode_l4class] at h
    cases h
    exact .l4class cls

theorem decodes_port {c : Config} {r : PortReq} {i : Instr} (h : decode c (.port r) = .ok i) :
    Decodes c (.port r) i := by
  cases r with
  | writeFrame j b => cases h; exact .frame j b
  | readReg k => cases h; exact .read k
  | writeReg k v =>
    rw [decode, decodePort] at h
    split_ifs at h with hctrl hflen
    · cases h; subst hctrl; exact .ctrl v
    · cases h; subst hflen; exact .flen v

/-- What the decoder can answer. -/
theorem decode_eq_ok_iff {c : Config} {sel : Selector} {i : Instr} :
    decode c sel = .ok i ↔ Decodes c sel i := by
  refine ⟨fun h => ?_, Decodes.decode_eq⟩
  cases sel with
  | stage st => exact decodes_stage h
  | etype16 e =>
    rw [decode_etype16] at h
    cases h
    exact .etype16 e
  | l3class v =>
    obtain ⟨cls, rfl⟩ := l3Code_surjective v
    rw [decode_l3class] at h
    cases h
    exact .l3class cls
  | proto8 p =>
    rw [decode_proto8] at h
    cases h
    exact .proto8 p
  | l4class v => exact decodes_l4class h
  | port r => exact decodes_port h

/-! Decode and encode agree -/

/-- The encoding of a well-formed operation names it. The known rows of the dispatchers need the values
of the constants: no two of them are equal. -/
theorem encode_decodes (p : Params) {i : Instr} (h : i.wf p.config = true) :
    Decodes p.config (encode p.config i) i := by
  cases i with
  | eth => exact .stageEth
  | arpd => exact .stageArpd
  | l3dIpv4 | l3dArp | l3dIpv6 => exact .etype16 _
  | l3dUnknown e =>
    have hrow : Decodes p.config (.etype16 e) (l3dRow e (l3d p.config e)) := .etype16 e
    rwa [(l3dUnknown_wf_iff p.config e).1 h] at hrow
  | net4 => exact .l3class .ipv4
  | net6 => exact .l3class .ipv6
  | netarp => exact .l3class .arp
  | netunk => exact .l3class .unknown
  | l4dTcp | l4dUdp | l4dIcmp | l4dIcmp6 => exact .proto8 _
  | l4dUnknown b =>
    have hrow : Decodes p.config (.proto8 b) (l4dRow b (l4d p.config b)) := .proto8 b
    rwa [(l4dUnknown_wf_iff p.config b).1 h] at hrow
  | tcpd => exact .l4class .tcp
  | udpd => exact .l4class .udp
  | icmpd => exact .l4class .icmp
  | icmp6d => exact .l4class .icmpv6
  | xnone => exact .l4class .unknown
  | start => exact .ctrl 1
  | cnop => exact .ctrl 0
  | wfb j b =>
    have hcut : Decodes p.config (.port (.writeFrame j b)) (.wfb (j % 2 ^ p.config.lenW) b) := .frame j b
    rwa [Nat.mod_eq_of_lt (of_decide_eq_true h)] at hcut
  | wflen n =>
    have hcut : Decodes p.config (.port (.writeReg 4 n)) (.wflen (n % 2 ^ p.config.lenW)) := .flen n
    rwa [Nat.mod_eq_of_lt (of_decide_eq_true h)] at hcut
  | rreg k => exact .read k

/-- Settles O12, by the constructor of the operation. -/
theorem decodeOfEncode : Obligations.DecodeOfEncode := fun p _ h =>
  decode_eq_ok_iff.2 (encode_decodes p h)

theorem encode_netOp (c : Config) (cls : L3Class) : encode c (netOp cls) = .l3class (l3Code cls) := by
  cases cls <;> rfl

/-- The class ARP shares XNONE with UNKNOWN, whose code the encoder writes. -/
theorem encode_xportOp (c : Config) {cls : L4Class} (h : cls ≠ .arp) :
    encode c (xportOp cls) = .l4class (l4Code cls) := by
  cases cls with
  | arp => exact absurd rfl h
  | unknown | tcp | udp | icmp | icmpv6 => rfl

/-- A value of one bit written to CTRL is the encoding of START or CNOP. -/
theorem encode_decodeCtrl (c : Config) {v : Nat} (h : v < 2) :
    encode c (decodeCtrl v) = .port (.writeReg 0 v) := by
  interval_cases v <;> rfl

/-- An expressible selector is the encoding of the operation it names: nothing is cut off it. -/
theorem Decodes.encode_eq {c : Config} {sel : Selector} {i : Instr} (h : Decodes c sel i)
    (hwf : sel.wf c = true) (harp : sel ≠ .l4class 5#3) : encode c i = sel := by
  cases h with
  | stageEth | stageArpd | read k => rfl
  | etype16 e => exact encode_l3dRow c e
  | l3class cls => exact encode_netOp c cls
  | proto8 p => exact encode_l4dRow c p
  | l4class cls => exact encode_xportOp c fun hcls => harp (hcls ▸ rfl)
  | ctrl v =>
    have hv : v < 2 := by simpa [Selector.wf] using hwf
    exact encode_decodeCtrl c hv
  | flen v =>
    have hv : v < 2 ^ c.lenW := by simpa [Selector.wf] using hwf
    rw [Nat.mod_eq_of_lt hv, encode]
  | frame j b => rw [Nat.mod_eq_of_lt (of_decide_eq_true hwf), encode]

/-- Settles O13, by what the selector decodes to. -/
theorem encodeOfDecode : Obligations.EncodeOfDecode := fun _ _ _ hwf harp hd =>
  (decode_eq_ok_iff.1 hd).encode_eq hwf harp

/-- Only the default rows and the two cut operands have anything to meet. -/
theorem Decodes.wf {c : Config} {sel : Selector} {i : Instr} (h : Decodes c sel i) : i.wf c = true := by
  have hcut : ∀ n : Nat, n % 2 ^ c.lenW < 2 ^ c.lenW := fun n => Nat.mod_lt n (by positivity)
  cases h with
  | stageEth | stageArpd | read k => rfl
  | etype16 e => exact l3dRow_wf c e
  | l3class cls => cases cls <;> rfl
  | proto8 p => exact l4dRow_wf c p
  | l4class cls => cases cls <;> rfl
  | ctrl v => unfold decodeCtrl; split <;> rfl
  | flen v => exact decide_eq_true (hcut v)
  | frame j b => exact decide_eq_true (hcut j)

/-- Settles O14, by what the selector decodes to. -/
theorem decodedIsWellFormed : Obligations.DecodedIsWellFormed := fun _ _ _ hd =>
  (decode_eq_ok_iff.1 hd).wf

/-- Settles O11: each selector is one of a format's, and the constants have the values of the tables. -/
theorem specSelectorsDecode : Obligations.SpecSelectorsDecode := by
  intro p
  refine ⟨?_, ?_, ?_, ?_, ?_, ?_, ?_⟩ <;> rw [decode_eq_ok_iff]
  · exact .etype16 _
  · exact .l3class .ipv4
  · exact .proto8 _
  · exact .l4class .udp
  · exact .stageArpd
  · exact .ctrl _
  · exact .ctrl _

end Sys2Proof.Machine
end

section
/-! The step runs what is decoded (`47` R230, R233; logs 4, 5). -/

namespace Sys2Proof.Machine

theorem runSelector_of_decode {s : State} {sel : Selector} {i : Instr} (h : decode s.cfg sel = .ok i) :
    runSelector sel s = exec i s := by
  rw [runSelector, h]

/-- A turn that decodes a selector runs it once the host's move is taken off. -/
theorem step_of_nextSelector {s : State} {sel : Selector} (h : nextSelector s = some sel) :
    step s = runSelector sel (takeMove s) := by
  unfold nextSelector at h
  cases ht : turn s with
  | reset | nobody => rw [ht] at h; cases h
  | host r => rw [ht] at h; cases h; rw [step, ht]
  | parser => rw [ht] at h; cases h; rw [step, ht]

theorem step_of_turn_reset {s : State} (h : turn s = .reset) :
    step s = .next (hardReset (takeMove s)) := by
  rw [step, h]

theorem step_of_turn_nobody {s : State} (h : turn s = .nobody) : step s = .next (takeMove s) := by
  rw [step, h]

/-- Settles O9: taking the host's move off leaves the configuration the selector is decoded on. -/
theorem stepRunsDecodedOperation : Obligations.StepRunsDecodedOperation := by
  intro s
  refine ⟨fun sel i hsel hdec _ => ?_, step_of_turn_reset, step_of_turn_nobody⟩
  have hdec' : decode (takeMove s).cfg sel = .ok i := hdec
  rw [step_of_nextSelector hsel, runSelector_of_decode hdec']

/-- At S_NET the class in L3_CLASS chooses the operation (`42` R160). -/
theorem step_sNet {s : State} (hbusy : s.runState = .busy) (hq : s.host = []) (hst : s.stage = .sNet)
    {cls : L3Class} (hcls : s.record.eth.l3Class = cls) : step s = exec (netOp cls) s := by
  rw [step_of_busy hbusy hq, runStage_sNet hst, hcls]

/-- At S_XPORT the class in L4_CLASS chooses the operation (`45` R200, `47` R234). -/
theorem step_sXport {s : State} (hbusy : s.runState = .busy) (hq : s.host = []) (hst : s.stage = .sXport)
    {cls : L4Class} (hcls : s.record.net.l4Class = cls) : step s = exec (xportOp cls) s := by
  rw [step_of_busy hbusy hq, runStage_sXport hst, hcls]

/-- Settles O10, stage by stage and class by class. -/
theorem stageRunsItsOperation : Obligations.StageRunsItsOperation := by
  intro s hbusy hq
  refine ⟨fun hst => ?_, fun hst => ?_, fun hst => ?_, fun hst => ?_⟩
  · rw [step_of_busy hbusy hq, runStage_sEth hst]
  · rw [step_of_busy hbusy hq, runStage_sArpd hst]
  · have hnet : ∀ cls, s.record.eth.l3Class = cls → step s = exec (netOp cls) s := fun _ =>
      step_sNet hbusy hq hst
    exact ⟨hnet .ipv4, hnet .ipv6, hnet .arp, hnet .unknown⟩
  · have hxport : ∀ cls, s.record.net.l4Class = cls → step s = exec (xportOp cls) s := fun _ =>
      step_sXport hbusy hq hst
    exact ⟨hxport .tcp, hxport .udp, hxport .icmp, hxport .icmpv6, hxport .unknown, hxport .arp⟩

end Sys2Proof.Machine
end

section
/-! The Ethernet frame decoder (`40`): what ETH writes, and when it underflows. -/

namespace Sys2Proof.Machine

/-- An operation that answers beyond its least length has written. -/
theorem Answers.eq_done {len least : Nat} {e : ErrStage} {s done t : State}
    (h : Answers len least e s done t) (hl : least ≤ len) : t = done := by
  rcases h with ⟨hshort, -⟩ | ⟨-, ht⟩
  · exact absurd hl (Nat.not_le.2 hshort)
  · exact ht

/-- An operation that answers without ending the decode passed its length test and has written. -/
theorem Answers.of_stage_ne_sEnd {len least : Nat} {e : ErrStage} {s done t : State}
    (h : Answers len least e s done t) (hst : t.stage ≠ .sEnd) : least ≤ len ∧ t = done := by
  rcases h with ⟨-, ht⟩ | hdone
  · obtain ⟨-, -, -, hend, -⟩ := enterUnderflow_entry e s
    exact absurd (ht ▸ hend) hst
  · exact hdone

theorem execEth_underflow {s : State} (h : s.frameLen < 18) :
    exec .eth s = .next (enterUnderflow .eth s) :=
  requireLen_short h

theorem execEth_afterEth {s : State} (h : 18 ≤ s.frameLen) (hmax : s.frameLen ≤ s.cfg.frameMax) :
    exec .eth s = .next (afterEth s) := by
  obtain ⟨t, hx⟩ := execEth_total hmax
  have ht : t = afterEth s := (execEth_answers hx).eq_done h
  rw [hx, ht]

/-- Settles O20: `afterEth` holds the fields at their offsets of `00` R7. -/
theorem ethOperation : Obligations.EthOperation := fun _ =>
  ⟨rfl, execEth_underflow, execEth_afterEth⟩

/-- The layer-2 payload begins behind the header and ends with the frame. -/
theorem afterEth_payload {s : State} (h : 18 ≤ s.frameLen) :
    (afterEth s).record.eth.pay2Off = 18 ∧
    (afterEth s).record.eth.pay2Off + (afterEth s).record.eth.pay2Len = (afterEth s).frameLen :=
  ⟨rfl, Nat.add_sub_cancel' h⟩

/-- Settles O21: Underflow entry leaves S_END, so at S_NET the registers are those of `afterEth`. -/
theorem ethPayloadFollowsHeader : Obligations.EthPayloadFollowsHeader := by
  intro s t hx hst
  have hne : t.stage ≠ .sEnd := by rw [hst]; decide
  obtain ⟨hl, rfl⟩ := (execEth_answers hx).of_stage_ne_sEnd hne
  exact afterEth_payload hl

end Sys2Proof.Machine
end

section
/-! The layer-3 dispatcher (`41`): which ethertypes have which class, and the store of the selected row. -/

namespace Sys2Proof.Machine

/-- Each known class has one ethertype. The values of the constants matter: no two of them are equal,
so no comparison of L3D hides a later one. -/
theorem l3d_known_iff (p : Params) (e : BitVec 16) :
    (l3d p.config e = .ipv4 ↔ e = 0x0800#16) ∧ (l3d p.config e = .arp ↔ e = 0x0806#16) ∧
    (l3d p.config e = .ipv6 ↔ e = 0x86DD#16) := by
  rcases l3d_cases p.config e with ⟨hl, he⟩ | ⟨hl, he⟩ | ⟨hl, he⟩ | ⟨hl, h4, ha, h6⟩
  · rw [hl, he]; simp [Constants.given]
  · rw [hl, he]; simp [Constants.given]
  · rw [hl, he]; simp [Constants.given]
  · simpa [hl, Constants.given] using And.intro h4 ⟨ha, h6⟩

/-- Every other ethertype has the class UNKNOWN. -/
theorem l3d_eq_unknown {p : Params} {e : BitVec 16} (h4 : e ≠ 0x0800#16) (ha : e ≠ 0x0806#16)
    (h6 : e ≠ 0x86DD#16) : l3d p.config e = .unknown := by
  rcases l3d_cases p.config e with ⟨-, he⟩ | ⟨-, he⟩ | ⟨-, he⟩ | ⟨hl, -⟩
  · exact absurd he h4
  · exact absurd he ha
  · exact absurd he h6
  · exact hl

/-- The row that the class of an ethertype names is the one that the ethertype selects. -/
theorem decode_etype16_of_class {c : Config} {e : BitVec 16} {cls : L3Class} (h : l3d c e = cls) :
    decode c (.etype16 e) = .ok (l3dRow e cls) := by
  rw [decode_etype16, h]

/-- A row of the layer-3 dispatcher stores its class (`41` R151 to R154). -/
theorem exec_l3dRow (e : BitVec 16) (cls : L3Class) (s : State) :
    exec (l3dRow e cls) s = .next (s.setL3 cls) := by
  cases cls <;> rfl

/-- Settles O16: the selected row is the one of the class that L3D gives, and stores that class. -/
theorem l3dIsTheSelectedRow : Obligations.L3dIsTheSelectedRow := by
  intro p e
  obtain ⟨hipv4, harp, hipv6⟩ := l3d_known_iff p e
  exact ⟨hipv4, harp, hipv6, _, decode_etype16 p.config e, exec_l3dRow e (l3d p.config e)⟩

/-- Settles O15, by the class of each ethertype. -/
theorem l3dRows : Obligations.L3dRows := by
  intro p s e
  have hipv4 : l3d p.config 0x0800#16 = .ipv4 := rfl
  have harp : l3d p.config 0x0806#16 = .arp := rfl
  have hipv6 : l3d p.config 0x86DD#16 = .ipv6 := rfl
  refine ⟨⟨decode_etype16_of_class hipv4, exec_l3dRow e .ipv4 s⟩,
    ⟨decode_etype16_of_class harp, exec_l3dRow e .arp s⟩,
    ⟨decode_etype16_of_class hipv6, exec_l3dRow e .ipv6 s⟩, fun h4 ha h6 => ?_,
    exec_l3dRow e .unknown s⟩
  exact decode_etype16_of_class (l3d_eq_unknown h4 ha h6)

end Sys2Proof.Machine
end

section
/-! The network layer decoder (`42`): what NET4, NET6 and NETARP write and when they underflow, and how
NETUNK ends the decode. -/

namespace Sys2Proof.Machine

/-- An operation that cannot fault and passes its length test answers with its writes. -/
theorem eq_done_of_answers {r : Result} {len least : Nat} {e : ErrStage} {s done : State}
    (htotal : ∃ t, r = .next t) (hans : ∀ {t}, r = .next t → Answers len least e s done t)
    (hl : least ≤ len) : r = .next done := by
  obtain ⟨t, hr⟩ := htotal
  have ht : t = done := (hans hr).eq_done hl
  rw [hr, ht]

/-! The operations with a length test -/

theorem execNet4_underflow {s : State} (h : s.record.eth.pay2Len < 20) :
    exec .net4 s = .next (enterUnderflow .net4 s) :=
  requireLen_short h

theorem execNet4_net4Regs {s : State} (h : 20 ≤ s.record.eth.pay2Len) (hin : Pay2Inside s) :
    exec .net4 s = .next ((s.setNet (net4Regs s)).setStage .sXport) :=
  eq_done_of_answers (execNet4_total hin) execNet4_answers h

theorem execNet6_underflow {s : State} (h : s.record.eth.pay2Len < 40) :
    exec .net6 s = .next (enterUnderflow .net6 s) :=
  requireLen_short h

theorem execNet6_net6Regs {s : State} (h : 40 ≤ s.record.eth.pay2Len) (hin : Pay2Inside s) :
    exec .net6 s = .next ((s.setNet (net6Regs s)).setStage .sXport) :=
  eq_done_of_answers (execNet6_total hin) execNet6_answers h

theorem execNetarp_underflow {s : State} (h : s.record.eth.pay2Len < 20) :
    exec .netarp s = .next (enterUnderflow .netarp s) :=
  requireLen_short h

theorem execNetarp_netarpRegs {s : State} (h : 20 ≤ s.record.eth.pay2Len) (hin : Pay2Inside s) :
    exec .netarp s = .next ((s.setNet (netarpRegs s)).setStage .sArpd) :=
  eq_done_of_answers (execNetarp_total hin) execNetarp_answers h

/-- Settles O22: `net4Regs` holds the fields at their offsets of `00` R7. -/
theorem net4Operation : Obligations.Net4Operation := fun s =>
  ⟨decode_l3class s.cfg .ipv4, execNet4_underflow, execNet4_net4Regs⟩

/-- Settles O23: `net6Regs` holds the fields at their offsets of `00` R7. -/
theorem net6Operation : Obligations.Net6Operation := fun s =>
  ⟨decode_l3class s.cfg .ipv6, execNet6_underflow, execNet6_net6Regs⟩

/-- Settles O24: `netarpRegs` holds the addresses at the IPv4 offsets, and the class ARP. -/
theorem netarpOperation : Obligations.NetarpOperation := fun s =>
  ⟨decode_l3class s.cfg .arp, execNetarp_underflow, execNetarp_netarpRegs⟩

/-! The end of a decode -/

theorem finish_entry (code : Status) (s : State) : FinishEntry code s (finish code s) :=
  ⟨rfl, rfl, rfl, rfl, finish_sameOutside code s⟩

/-- With L3_UNKNOWN only V_L2 is set, whatever the classes (`10` R28). -/
theorem State.valid_of_l3Unknown {s : State} (h : s.status = .l3Unknown) : s.valid = 1 := by
  have h2 : s.vL2 = true := by simp [State.vL2, h]
  have h3 : s.vL3 = false := by simp [State.vL3, h]
  have ha : s.vArp = false := by simp [State.vArp, h]
  have h4 : s.vL4 = false := by simp [State.vL4, h]
  rw [State.valid, h2, h3, ha, h4]
  rfl

/-- Settles O25: NETUNK is `finish(L3_UNKNOWN)`. -/
theorem netunkOperation : Obligations.NetunkOperation := fun s =>
  ⟨decode_l3class s.cfg .unknown, finish .l3Unknown s, rfl, finish_entry .l3Unknown s, rfl,
    State.valid_of_l3Unknown rfl⟩

end Sys2Proof.Machine
end

section
/-! The layer-4 dispatcher (`43`): which bytes have which class, and the store of the selected row. -/

namespace Sys2Proof.Machine

/-- Each known class has one byte. The values of the constants matter: no two of them are equal, so no
comparison of L4D hides a later one. -/
theorem l4d_known_iff (p : Params) (b : BitVec 8) :
    (l4d p.config b = .tcp ↔ b = 6#8) ∧ (l4d p.config b = .udp ↔ b = 17#8) ∧
    (l4d p.config b = .icmp ↔ b = 1#8) ∧ (l4d p.config b = .icmpv6 ↔ b = 58#8) := by
  rcases l4d_cases p.config b with ⟨hl, hb⟩ | ⟨hl, hb⟩ | ⟨hl, hb⟩ | ⟨hl, hb⟩ | ⟨hl, ht, hu, hi, hi6⟩
  · rw [hl, hb]; simp [Constants.given]
  · rw [hl, hb]; simp [Constants.given]
  · rw [hl, hb]; simp [Constants.given]
  · rw [hl, hb]; simp [Constants.given]
  · simpa [hl, Constants.given] using And.intro ht ⟨hu, hi, hi6⟩

/-- Every other byte has the class UNKNOWN. -/
theorem l4d_eq_unknown {p : Params} {b : BitVec 8} (ht : b ≠ 6#8) (hu : b ≠ 17#8) (hi : b ≠ 1#8)
    (hi6 : b ≠ 58#8) : l4d p.config b = .unknown := by
  rcases l4d_cases p.config b with ⟨-, hb⟩ | ⟨-, hb⟩ | ⟨-, hb⟩ | ⟨-, hb⟩ | ⟨hl, -⟩
  · exact absurd hb ht
  · exact absurd hb hu
  · exact absurd hb hi
  · exact absurd hb hi6
  · exact hl

/-- The row that the class of a byte names is the one that the byte selects. -/
theorem decode_proto8_of_class {c : Config} {b : BitVec 8} {cls : L4Class} (h : l4d c b = cls) :
    decode c (.proto8 b) = .ok (l4dRow b cls) := by
  rw [decode_proto8, h]

/-- A row of the layer-4 dispatcher stores its class (`43` R181 to R185); ARP has no row of its own. -/
theorem exec_l4dRow (b : BitVec 8) {cls : L4Class} (h : cls ≠ .arp) (s : State) :
    exec (l4dRow b cls) s = .next (s.setL4 cls) := by
  cases cls with
  | arp => exact absurd rfl h
  | tcp | udp | icmp | icmpv6 | unknown => rfl

/-- Settles O18: the selected row is the one of the class that L4D gives, and stores that class. -/
theorem l4dIsTheSelectedRow : Obligations.L4dIsTheSelectedRow := by
  intro p b
  obtain ⟨htcp, hudp, hicmp, hicmp6⟩ := l4d_known_iff p b
  have harp := l4d_ne_arp p.config b
  exact ⟨htcp, hudp, hicmp, hicmp6, harp, _, decode_proto8 p.config b, exec_l4dRow b harp⟩

/-- Settles O17, by the class of each byte. -/
theorem l4dRows : Obligations.L4dRows := by
  intro p s b
  have htcp : l4d p.config 6#8 = .tcp := rfl
  have hudp : l4d p.config 17#8 = .udp := rfl
  have hicmp : l4d p.config 1#8 = .icmp := rfl
  have hicmp6 : l4d p.config 58#8 = .icmpv6 := rfl
  refine ⟨⟨decode_proto8_of_class htcp, exec_l4dRow b (cls := .tcp) (by decide) s⟩,
    ⟨decode_proto8_of_class hudp, exec_l4dRow b (cls := .udp) (by decide) s⟩,
    ⟨decode_proto8_of_class hicmp, exec_l4dRow b (cls := .icmp) (by decide) s⟩,
    ⟨decode_proto8_of_class hicmp6, exec_l4dRow b (cls := .icmpv6) (by decide) s⟩,
    fun ht hu hi hi6 => ?_, exec_l4dRow b (cls := .unknown) (by decide) s⟩
  exact decode_proto8_of_class (l4d_eq_unknown ht hu hi hi6)

end Sys2Proof.Machine
end

section
/-! The ARP decoder (`44`): what ARPD writes over the layer-2 payload, and when it underflows. -/

namespace Sys2Proof.Machine

theorem execArpd_underflow {s : State} (h : s.record.eth.pay2Len < 24) :
    exec .arpd s = .next (enterUnderflow .arpd s) :=
  requireLen_short h

theorem execArpd_arpdRegs {s : State} (h : 24 ≤ s.record.eth.pay2Len) (hin : Pay2Inside s) :
    exec .arpd s = .next ((s.setArp (arpdRegs s)).setStage .sXport) :=
  eq_done_of_answers (execArpd_total hin) execArpd_answers h

/-- Settles O26: `arpdRegs` holds the opcode and the addresses at their offsets of `00` R7. -/
theorem arpdOperation : Obligations.ArpdOperation := fun _ =>
  ⟨rfl, execArpd_underflow, execArpd_arpdRegs⟩

end Sys2Proof.Machine
end

section
/-! The transport decoder (`45`): what TCPD and UDPD write over the layer-3 payload, when they underflow,
and VALID after a transport operation that ends with OK. -/

namespace Sys2Proof.Machine

/-! VALID after a transport operation -/

/-- With OK and a class that has a decoder, outside the ARP path, V_L2, V_L3 and V_L4 are set (`10` R28). -/
theorem State.valid_of_ok_of_transport {s : State} (hok : s.status = .ok)
    (hcls : s.record.net.l4Class ∈ [L4Class.tcp, .udp, .icmp, .icmpv6])
    (harp : s.record.eth.l3Class ≠ .arp) : s.valid = 11 := by
  have h2 : s.vL2 = true := by simp [State.vL2, hok]
  have h3 : s.vL3 = true := by simp [State.vL3, hok]
  have ha : s.vArp = false := by simp [State.vArp, harp]
  have h4 : s.vL4 = true := by
    rw [State.vL4, hok]
    revert hcls
    cases s.record.net.l4Class <;> simp
  rw [State.valid, h2, h3, ha, h4]
  rfl

/-- An operation that answers with OK passed its length test: Underflow entry leaves UNDERFLOW. -/
theorem Answers.eq_done_of_status_ok {len least : Nat} {e : ErrStage} {s done t : State}
    (h : Answers len least e s done t) (hok : t.status = .ok) : t = done := by
  rcases h with ⟨-, ht⟩ | ⟨-, ht⟩
  · rw [ht] at hok
    cases hok
  · exact ht

/-- A transport operation writes neither class, so where it ends with OK the classes it began with
decide VALID. -/
theorem Answers.valid_of_status_ok {len least : Nat} {e : ErrStage} {s u t : State}
    (h : Answers len least e s (finish .ok u) t) (heth : u.record.eth = s.record.eth)
    (hnet : u.record.net = s.record.net) (hok : t.status = .ok)
    (hcls : s.record.net.l4Class ∈ [L4Class.tcp, .udp, .icmp, .icmpv6])
    (harp : s.record.eth.l3Class ≠ .arp) : t.valid = 11 := by
  obtain rfl := h.eq_done_of_status_ok hok
  rw [← hnet] at hcls
  rw [← heth] at harp
  exact State.valid_of_ok_of_transport hok hcls harp

/-! TCPD -/

theorem execTcpd_underflow {s : State} (h : s.record.net.pay3Len < 20) :
    exec .tcpd s = .next (enterUnderflow .tcpd s) :=
  requireLen_short h

theorem execTcpd_tcpdRegs {s : State} (h : 20 ≤ s.record.net.pay3Len) (hin : Pay3Inside s) :
    exec .tcpd s = .next (finish .ok (s.setTcp (tcpdRegs s))) :=
  eq_done_of_answers (execTcpd_total hin) execTcpd_answers h

theorem execTcpd_valid {s t : State} (hx : exec .tcpd s = .next t) (hok : t.status = .ok)
    (hcls : s.record.net.l4Class = .tcp) (harp : s.record.eth.l3Class ≠ .arp) : t.valid = 11 :=
  (execTcpd_answers hx).valid_of_status_ok (s.setTcp_eth _) (s.setTcp_net _) hok (by simp [hcls]) harp

/-- Settles O27: `tcpdRegs` holds the fields at their offsets of `00` R7. -/
theorem tcpdOperation : Obligations.TcpdOperation := fun s =>
  ⟨decode_l4class s.cfg .tcp, execTcpd_underflow, execTcpd_tcpdRegs, fun _ => execTcpd_valid⟩

/-! UDPD -/

theorem execUdpd_underflow {s : State} (h : s.record.net.pay3Len < 8) :
    exec .udpd s = .next (enterUnderflow .udpd s) :=
  requireLen_short h

theorem execUdpd_udpdRegs {s : State} (h : 8 ≤ s.record.net.pay3Len) (hin : Pay3Inside s) :
    exec .udpd s = .next (finish .ok (s.setUdp (udpdRegs s))) :=
  eq_done_of_answers (execUdpd_total hin) execUdpd_answers h

theorem execUdpd_valid {s t : State} (hx : exec .udpd s = .next t) (hok : t.status = .ok)
    (hcls : s.record.net.l4Class = .udp) (harp : s.record.eth.l3Class ≠ .arp) : t.valid = 11 :=
  (execUdpd_answers hx).valid_of_status_ok (s.setUdp_eth _) (s.setUdp_net _) hok (by simp [hcls]) harp

/-- Settles O28: `udpdRegs` holds the fields at their offsets of `00` R7. -/
theorem udpdOperation : Obligations.UdpdOperation := fun s =>
  ⟨decode_l4class s.cfg .udp, execUdpd_underflow, execUdpd_udpdRegs, fun _ => execUdpd_valid⟩

end Sys2Proof.Machine
end

section
/-! The ICMP decoder (`46`): what ICMPD and ICMP6D write over the layer-3 payload, and when they
underflow. R8 admits no least length below the two bytes that are read. -/

namespace Sys2Proof.Machine

/-- One decoder serves both operations (`46` R222): where it ends with OK the class decides VALID,
whatever the least length and the code of the operation. -/
theorem Answers.valid_of_icmpdRegs {len least : Nat} {e : ErrStage} {s t : State}
    (h : Answers len least e s (finish .ok (s.setIcmp (icmpdRegs s))) t) (hok : t.status = .ok)
    (hcls : s.record.net.l4Class ∈ [L4Class.tcp, .udp, .icmp, .icmpv6])
    (harp : s.record.eth.l3Class ≠ .arp) : t.valid = 11 :=
  h.valid_of_status_ok (s.setIcmp_eth _) (s.setIcmp_net _) hok hcls harp

/-! ICMPD -/

theorem execIcmpd_underflow {s : State} (h : s.record.net.pay3Len < s.cfg.icmpMinLen) :
    exec .icmpd s = .next (enterUnderflow .icmpd s) :=
  requireLen_short h

theorem execIcmpd_icmpdRegs {s : State} (hmin : 2 ≤ s.cfg.icmpMinLen)
    (h : s.cfg.icmpMinLen ≤ s.record.net.pay3Len) (hin : Pay3Inside s) :
    exec .icmpd s = .next (finish .ok (s.setIcmp (icmpdRegs s))) :=
  eq_done_of_answers (execIcmpd_total hmin hin) execIcmpd_answers h

theorem execIcmpd_valid {s t : State} (hx : exec .icmpd s = .next t) (hok : t.status = .ok)
    (hcls : s.record.net.l4Class = .icmp) (harp : s.record.eth.l3Class ≠ .arp) : t.valid = 11 :=
  (execIcmpd_answers hx).valid_of_icmpdRegs hok (by simp [hcls]) harp

/-- Settles O29: `icmpdRegs` holds the two bytes at their offsets of `30` R107, which
ICMP_MIN_LEN covers. -/
theorem icmpdOperation : Obligations.IcmpdOperation := fun s ⟨_, ⟨hmin, _⟩, _⟩ =>
  ⟨decode_l4class s.cfg .icmp, execIcmpd_underflow, execIcmpd_icmpdRegs hmin, fun _ => execIcmpd_valid⟩

/-! ICMP6D -/

theorem execIcmp6d_underflow {s : State} (h : s.record.net.pay3Len < s.cfg.icmp6MinLen) :
    exec .icmp6d s = .next (enterUnderflow .icmp6d s) :=
  requireLen_short h

theorem execIcmp6d_icmpdRegs {s : State} (hmin : 2 ≤ s.cfg.icmp6MinLen)
    (h : s.cfg.icmp6MinLen ≤ s.record.net.pay3Len) (hin : Pay3Inside s) :
    exec .icmp6d s = .next (finish .ok (s.setIcmp (icmpdRegs s))) :=
  eq_done_of_answers (execIcmp6d_total hmin hin) execIcmp6d_answers h

theorem execIcmp6d_valid {s t : State} (hx : exec .icmp6d s = .next t) (hok : t.status = .ok)
    (hcls : s.record.net.l4Class = .icmpv6) (harp : s.record.eth.l3Class ≠ .arp) : t.valid = 11 :=
  (execIcmp6d_answers hx).valid_of_icmpdRegs hok (by simp [hcls]) harp

/-- Settles O30: `icmpdRegs` serves ICMPv6 too (`46` R222), and ICMP6_MIN_LEN covers its bytes. -/
theorem icmp6dOperation : Obligations.Icmp6dOperation := fun s ⟨_, _, ⟨hmin, _⟩⟩ =>
  ⟨decode_l4class s.cfg .icmpv6, execIcmp6d_underflow, execIcmp6d_icmpdRegs hmin,
    fun _ => execIcmp6d_valid⟩

end Sys2Proof.Machine
end

section
/-! The reset event, the two shared ends of a decode (`60` R283, `47` R234, R235) and VALID after each
outcome (`10` R28, `47` R245). -/

namespace Sys2Proof.Machine

/-! The reset event -/

theorem turn_reset {s : State} {rest : List HostMove} (h : s.host = .reset :: rest) :
    turn s = .reset := by
  rw [turn, h]

/-- Settles O2: the step is `hardReset`, whatever the state, with the event taken off the moves. -/
theorem resetEventFromEveryState : Obligations.ResetEventFromEveryState := by
  intro s rest h
  have hrest : (hardReset (takeMove s)).host = rest := congrArg List.tail h
  exact ⟨_, step_of_turn_reset (turn_reset h), rfl, rfl, rfl, rfl, rfl, rfl, rfl, fun _ => rfl, rfl,
    rfl, hrest, rfl, rfl⟩

/-! VALID by the outcome -/

/-- Every bit of VALID needs OK or L3_UNKNOWN. -/
theorem State.valid_eq_zero {s : State} (hok : s.status ≠ .ok) (hunk : s.status ≠ .l3Unknown) :
    s.valid = 0 := by
  have h2 : s.vL2 = false := by simp [State.vL2, hok, hunk]
  have h3 : s.vL3 = false := by simp [State.vL3, hok]
  have ha : s.vArp = false := by simp [State.vArp, hok]
  have h4 : s.vL4 = false := by simp [State.vL4, hok]
  rw [State.valid, h2, h3, ha, h4]
  rfl

/-- With OK and a class that has no decoder V_L4 is 0, and the layer-3 class decides V_ARP. -/
theorem State.valid_of_ok_without_transport {s : State} (hok : s.status = .ok)
    (hcls : s.record.net.l4Class = .unknown ∨ s.record.net.l4Class = .arp) :
    s.valid = if s.record.eth.l3Class = .arp then 7 else 3 := by
  have h2 : s.vL2 = true := by simp [State.vL2, hok]
  have h3 : s.vL3 = true := by simp [State.vL3, hok]
  have ha : s.vArp = decide (s.record.eth.l3Class = .arp) := by
    rw [State.vArp, hok]
    rfl
  have h4 : s.vL4 = false := by rcases hcls with hc | hc <;> simp [State.vL4, hc]
  rw [State.valid, h2, h3, ha, h4]
  split_ifs with harp
  · rw [decide_eq_true harp]; rfl
  · rw [decide_eq_false harp]; rfl

/-! The ends of a decode -/

/-- Settles O33: the status UNDERFLOW sets no bit of VALID. -/
theorem underflowEntryEffect : Obligations.UnderflowEntryEffect := fun s e =>
  ⟨enterUnderflow_entry e s, State.valid_eq_zero nofun nofun⟩

/-- Settles O32: `finish_entry`, and no record register is written. -/
theorem finishEndsDecode : Obligations.FinishEndsDecode := fun s code _ =>
  ⟨finish_entry code s, rfl⟩

/-- Settles O31: XNONE is `finish(OK)`, and the class has no decoder. -/
theorem xnoneOperation : Obligations.XnoneOperation := by
  intro s
  have hvalid := State.valid_of_ok_without_transport (s := finish .ok s) rfl
  exact ⟨decode_l4class s.cfg .unknown, decode_l4class s.cfg .arp, finish .ok s, rfl,
    finish_entry .ok s, rfl, fun hc harp => (hvalid (.inl hc)).trans (if_neg harp),
    fun hc harp => (hvalid (.inr hc)).trans (if_pos harp)⟩

/-- The outcomes with STATUS = OK: the layer-3 class ARP and the layer-4 class ARP come together, so the
classes leave the ARP path, no decoder, and a transport decoder. -/
theorem NetDone.valid_cases {s : State} (hN : NetDone s) (hok : s.status = .ok) :
    (s.record.eth.l3Class = .arp ∧ s.valid = 7) ∨
    (s.record.net.l4Class = .unknown ∧ s.valid = 3) ∨
    (s.valid = 11 ∧ s.record.net.l4Class ∈ [L4Class.tcp, .udp, .icmp, .icmpv6]) := by
  obtain ⟨-, -, -, hiff, -⟩ := hN
  by_cases harp : s.record.eth.l3Class = .arp
  · exact .inl ⟨harp,
      (State.valid_of_ok_without_transport hok (.inr (hiff.2 harp))).trans (if_pos harp)⟩
  · cases hc : s.record.net.l4Class with
    | arp => exact absurd (hiff.1 hc) harp
    | unknown =>
      exact .inr (.inl ⟨rfl, (State.valid_of_ok_without_transport hok (.inl hc)).trans (if_neg harp)⟩)
    | tcp | udp | icmp | icmpv6 =>
      exact .inr (.inr ⟨State.valid_of_ok_of_transport hok (by simp [hc]) harp, by simp⟩)

/-- Settles O8, by STATUS: the invariant ties ERR_STAGE to it, and the classes to each other. -/
theorem endedDecodeOutcomes : Obligations.EndedDecodeOutcomes := by
  intro s h hdone
  obtain ⟨-, -, herr, hend⟩ := (stateInv_iff_of_done hdone).1 h
  have hnone : s.status ≠ .underflow → s.errStage = .none := fun hne => by
    by_contra he
    exact hne (herr.2 he)
  cases hst : s.status with
  | none => rw [hst] at hend; exact hend.elim
  | underflow =>
    exact .inl ⟨rfl, herr.1 hst, State.valid_eq_zero (by simp [hst]) (by simp [hst])⟩
  | l3Unknown =>
    exact .inr (.inl ⟨rfl, hnone (by simp [hst]), State.valid_of_l3Unknown hst⟩)
  | ok =>
    rw [hst] at hend
    obtain ⟨-, hN, -⟩ := hend
    have he : s.errStage = .none := hnone (by simp [hst])
    rcases hN.valid_cases hst with harp | hunk | htransport
    · exact .inr (.inr (.inl ⟨rfl, he, harp⟩))
    · exact .inr (.inr (.inr (.inl ⟨rfl, he, hunk⟩)))
    · exact .inr (.inr (.inr (.inr ⟨rfl, he, htransport⟩)))

end Sys2Proof.Machine
end

section
/-! The host port (`47` R231, R236 to R240): each operation where it is accepted, and where it is ignored. -/

namespace Sys2Proof.Machine

/-! START, CNOP, WFB and WFLEN -/

theorem decode_ctrl_odd (c : Config) {v : Nat} (h : v % 2 = 1) :
    decode c (.port (.writeReg 0 v)) = .ok .start := by
  rw [decode_ctrl, if_pos h]

theorem decode_ctrl_even (c : Config) {v : Nat} (h : v % 2 = 0) :
    decode c (.port (.writeReg 0 v)) = .ok .cnop := by
  rw [decode_ctrl, if_neg (by omega)]

theorem exec_start_busy {s : State} (h : s.runState = .busy) : exec .start s = .next s :=
  congrArg _ (unlessBusy_busy _ h)

theorem exec_start_free {s : State} (h : s.runState ≠ .busy) : exec .start s = .next s.beginDecode :=
  congrArg _ (unlessBusy_free _ h)

/-- Settles O39: STATUS NONE sets no bit of VALID. -/
theorem startOperation : Obligations.StartOperation := fun s =>
  ⟨fun _ => decode_ctrl_odd s.cfg,
    fun hfree => ⟨_, exec_start_free hfree, rfl, rfl, rfl, rfl, rfl, rfl,
      State.valid_eq_zero nofun nofun⟩,
    exec_start_busy⟩

/-- Settles O40: bit 0 chooses CNOP, which answers the state it is given. -/
theorem cnopHasNoEffect : Obligations.CnopHasNoEffect := fun s _ hv =>
  ⟨decode_ctrl_even s.cfg hv, rfl⟩

theorem exec_wfb_busy {s : State} (i : Nat) (b : Byte) (h : s.runState = .busy) :
    exec (.wfb i b) s = .next s :=
  congrArg _ (unlessBusy_busy _ h)

theorem exec_wfb_free {s : State} (i : Nat) (b : Byte) (h : s.runState ≠ .busy) :
    exec (.wfb i b) s = .next (memWrite s i b) :=
  congrArg _ (unlessBusy_free _ h)

theorem memWrite_inside {s : State} {i : Nat} (b : Byte) (h : i < s.cfg.frameMax) :
    memWrite s i b = s.setFb (Memory.set s.fb i b) :=
  if_pos h

theorem memWrite_byte_same {s : State} {i : Nat} (b : Byte) (h : i < s.cfg.frameMax) :
    fbByte (memWrite s i b) i = b := by
  rw [memWrite_inside b h, fbByte, State.setFb_fb, Memory.get?_set_same]

/-- Settles O41: the index is not cut, and the write reads back as `memWrite_byte_same` and
`memWrite_byte_other` say. -/
theorem wfbOperation : Obligations.WfbOperation := by
  intro s i b hwf
  refine ⟨decode_eq_ok_iff.2 (encode_decodes s.params hwf), fun hfree hi => ?_, fun hfree hi => ?_,
    exec_wfb_busy i b⟩
  · exact ⟨_, exec_wfb_free i b hfree, memWrite_byte_same b hi, fun _ => memWrite_byte_other s b,
      by rw [memWrite_inside b hi]; rfl⟩
  · rw [exec_wfb_free i b hfree, memWrite_outside b hi.ge]

/-- Settles O42: the length is not cut, and FLEN stands under `unlessBusy`. -/
theorem wflenOperation : Obligations.WflenOperation := fun s _ hwf =>
  ⟨decode_eq_ok_iff.2 (encode_decodes s.params hwf), fun hfree => congrArg _ (unlessBusy_free _ hfree),
    fun hbusy => congrArg _ (unlessBusy_busy _ hbusy)⟩

/-! RREG -/

/-- The number 7 and the numbers beyond the table are unassigned (`20` R78). -/
theorem regOfNumber_unassigned {k : Nat} (h : k = 7 ∨ 34 < k) : regOfNumber k = none := by
  rcases h with rfl | hk
  · rfl
  · have hlen : regTable.length ≤ k := hk
    rw [regOfNumber, List.getElem?_eq_none hlen]
    rfl

theorem readIsDraw_iff (s : State) (r : Reg) :
    readIsDraw s r = true ↔ s.runState = .busy ∧ r ≠ .ctrl ∧ r ≠ .state ∧ r ≠ .flen := by
  cases r <;> simp [readIsDraw, regSteady]

theorem readRegister_unassigned {k : Nat} (s : State) (h : regOfNumber k = none) :
    readRegister s k = s.setReadData 0 := by
  rw [readRegister, h]

/-- A register that is not drawn reads what it holds. -/
theorem readRegister_held {s : State} {k : Nat} {r : Reg} (h : regOfNumber k = some r)
    (hdraw : ¬ readIsDraw s r = true) : readRegister s k = s.setReadData (regValue s r) := by
  rw [readRegister, h]
  exact if_neg hdraw

theorem readRegister_drawn {s : State} {k : Nat} {r : Reg} (h : regOfNumber k = some r)
    (hdraw : readIsDraw s r = true) :
    ∃ v, v < 2 ^ regWidth s.cfg r ∧ readRegister s k = (s.setReadData v).drawn := by
  refine ⟨Config.freeRead s.draws % 2 ^ regWidth s.cfg r, Nat.mod_lt _ (by positivity), ?_⟩
  rw [readRegister, h]
  exact if_pos hdraw

/-- CTRL, STATE and FLEN read what they hold at every moment. -/
theorem readRegister_steady {k : Nat} {r : Reg} (s : State) (h : regOfNumber k = some r)
    (hr : r = .ctrl ∨ r = .state ∨ r = .flen) : readRegister s k = s.setReadData (regValue s r) := by
  refine readRegister_held h fun hdraw => ?_
  obtain ⟨-, hctrl, hstate, hflen⟩ := (readIsDraw_iff s r).1 hdraw
  rcases hr with hr | hr | hr
  · exact hctrl hr
  · exact hstate hr
  · exact hflen hr

theorem exec_rreg {s t : State} {k : Nat} (h : readRegister s k = t) : exec (.rreg k) s = .next t :=
  congrArg _ h

/-- Settles O43, by the number read and whether its register is drawn. -/
theorem rregOperation : Obligations.RregOperation := by
  intro s k
  refine ⟨rfl, fun hk => exec_rreg ?_, exec_rreg (readRegister_steady s rfl (.inr (.inl rfl))),
    exec_rreg (readRegister_steady s rfl (.inr (.inr rfl))), fun r hr => ⟨fun hfree => ?_, ?_⟩⟩
  · rcases hk with rfl | hk
    · exact readRegister_steady s rfl (.inl rfl)
    · exact readRegister_unassigned s (regOfNumber_unassigned hk)
  · exact exec_rreg (readRegister_held hr fun hdraw => hfree ((readIsDraw_iff s r).1 hdraw).1)
  · intro hbusy hctrl hstate hflen
    obtain ⟨v, hv, hread⟩ :=
      readRegister_drawn hr ((readIsDraw_iff s r).2 ⟨hbusy, hctrl, hstate, hflen⟩)
    exact ⟨v, hv, exec_rreg hread⟩

end Sys2Proof.Machine
end

section
/-! The sequencer (`47` R230, R242, R246): every operation of the parser brings STAGE closer to S_END, so
every decode ends, and the stages compute the decode function. -/

namespace Sys2Proof.Machine

/-- Settles O54: in four steps every decode has ended, and an ended one stays. -/
theorem stagesComputeWholeDecode : Obligations.StagesComputeWholeDecode := fun _ h =>
  ⟨4, by decide, le_refl 4, runSteps_decode h⟩

/-! The order of the stages -/

/-- What every operation of the parser does: STAGE comes closer to S_END, and what lies outside the parser
is as it was. -/
abbrev Downward (s t : State) : Prop := SameOutside s t ∧ stageRank t.stage < stageRank s.stage

/-- Underflow entry leaves S_END, which no stage is below. -/
theorem Answers.downward {len least : Nat} {e : ErrStage} {s done t : State}
    (h : Answers len least e s done t) (hdone : Downward s done) : Downward s t := by
  rcases h with ⟨-, rfl⟩ | ⟨-, rfl⟩
  · obtain ⟨-, hlt⟩ := hdone
    exact ⟨enterUnderflow_sameOutside e s, Nat.zero_lt_of_lt hlt⟩
  · exact hdone

theorem setStage_downward {s u : State} {st : Stage} (hout : SameOutside s u)
    (hlt : stageRank st < stageRank s.stage) : Downward s (u.setStage st) :=
  ⟨hout.trans (setStage_sameOutside u st), hlt⟩

theorem finish_downward {s u : State} (code : Status) (hout : SameOutside s u)
    (hst : s.stage ≠ .sEnd) : Downward s (finish code u) := by
  refine ⟨hout.trans (finish_sameOutside code u), ?_⟩
  show 0 < stageRank s.stage
  cases h : s.stage with
  | sEnd => exact absurd h hst
  | sEth | sNet | sArpd | sXport => decide

theorem execNetOp_downward {s t : State} (hst : s.stage = .sNet) {cls : L3Class}
    (hx : exec (netOp cls) s = .next t) : Downward s t := by
  have hnet : ∀ (r : NetRegs) (st : Stage), stageRank st < 3 →
      Downward s ((s.setNet r).setStage st) := fun r st hlt =>
    setStage_downward (setNet_sameOutside s r) (by rw [hst]; exact hlt)
  cases cls with
  | unknown => cases hx; exact finish_downward _ (setStage_sameOutside s s.stage) (by simp [hst])
  | ipv4 => exact (execNet4_answers hx).downward (hnet _ .sXport (by decide))
  | ipv6 => exact (execNet6_answers hx).downward (hnet _ .sXport (by decide))
  | arp => exact (execNetarp_answers hx).downward (hnet _ .sArpd (by decide))

theorem execXportOp_downward {s t : State} (hst : s.stage = .sXport) {cls : L4Class}
    (hx : exec (xportOp cls) s = .next t) : Downward s t := by
  have hend : ∀ u, SameOutside s u → Downward s (finish .ok u) := fun u hout =>
    finish_downward .ok hout (by simp [hst])
  cases cls with
  | unknown | arp => cases hx; exact hend s (setStage_sameOutside s s.stage)
  | tcp => exact (execTcpd_answers hx).downward (hend _ (setTcp_sameOutside s _))
  | udp => exact (execUdpd_answers hx).downward (hend _ (setUdp_sameOutside s _))
  | icmp => exact (execIcmpd_answers hx).downward (hend _ (setIcmp_sameOutside s _))
  | icmpv6 => exact (execIcmp6d_answers hx).downward (hend _ (setIcmp_sameOutside s _))

/-- S_END has no operation, so a turn of the parser there does not answer. -/
theorem runStage_sEnd {s : State} (h : s.stage = .sEnd) :
    runSelector (stageSelector s) s = .fault .noOperation := by
  rw [stageSelector, h]
  rfl

/-- The operation of the stage in progress, stage by stage. -/
theorem runStage_downward {s t : State} (hx : runSelector (stageSelector s) s = .next t) :
    Downward s t := by
  cases hst : s.stage with
  | sEth =>
    rw [runStage_sEth hst] at hx
    exact (execEth_answers hx).downward
      (setStage_downward (setEth_sameOutside s _) (by rw [hst]; decide))
  | sNet =>
    rw [runStage_sNet hst] at hx
    exact execNetOp_downward hst hx
  | sArpd =>
    rw [runStage_sArpd hst] at hx
    exact (execArpd_answers hx).downward
      (setStage_downward (setArp_sameOutside s _) (by rw [hst]; decide))
  | sXport =>
    rw [runStage_sXport hst] at hx
    exact execXportOp_downward hst hx
  | sEnd =>
    rw [runStage_sEnd hst] at hx
    cases hx

/-- Settles O7: taking the host's quiet move off leaves STAGE. -/
theorem parserMovesDownward : Obligations.ParserMovesDownward := by
  intro s t hturn hx
  have hrun : runSelector (stageSelector (takeMove s)) (takeMove s) = .next t := by
    rwa [step, hturn] at hx
  obtain ⟨-, hlt⟩ := runStage_downward hrun
  exact hlt

/-! Every decode ends -/

theorem stageRank_le (st : Stage) : stageRank st ≤ 4 := by cases st <;> decide

/-- A decode with at most `n` stages to come ends within `n` steps. -/
theorem runSteps_ends {n : Nat} {s : State} (h : StateInv s) (hbusy : s.runState = .busy)
    (hq : s.host = []) (hn : stageRank s.stage ≤ n) :
    ∃ k t, k ≤ n ∧ runSteps k s = .next t ∧ t.runState = .done ∧ t.frameLen = s.frameLen := by
  induction n generalizing s with
  | zero =>
    obtain ⟨t, hx⟩ := runStage_total h hbusy
    obtain ⟨-, hlt⟩ := runStage_downward hx
    omega
  | succ n ih =>
    obtain ⟨t, hx⟩ := runStage_total h hbusy
    obtain ⟨⟨-, -, -, hframe, hhost, -⟩, hlt⟩ := runStage_downward hx
    have hstep : step s = .next t := (step_of_busy hbusy hq).trans hx
    cases hrun : t.runState with
    | idle =>
      rw [runSelector_idle hx hrun] at hbusy
      cases hbusy
    | done => exact ⟨1, t, by omega, runSteps_next 0 hstep, hrun, hframe⟩
    | busy =>
      obtain ⟨k, u, hk, hu, hdone, hframe'⟩ :=
        ih (stepKeepsInv s t h hstep) hrun (hhost.trans hq) (by omega)
      exact ⟨k + 1, u, by omega, (runSteps_next k hstep).trans hu, hdone, hframe'.trans hframe⟩

/-- Settles O55: four stages are above S_END. -/
theorem everyDecodeEnds : Obligations.EveryDecodeEnds := fun s h hbusy hq =>
  runSteps_ends h hbusy hq (stageRank_le s.stage)

end Sys2Proof.Machine
end

section
/-! Which underflow a frame reports (`60` R281, R287): ERR_STAGE as a function of the frame's length, its
ethertype and its protocol byte. -/

namespace Sys2Proof.Machine

/-! ERR_STAGE of the decode function -/

/-- ERR_STAGE after the transport stage over a payload of `len` bytes. -/
def xportError (c : Config) (len : Nat) : L4Class → ErrStage
  | .tcp => if len < c.tcpMinLen then .tcpd else .none
  | .udp => if len < c.udpMinLen then .udpd else .none
  | .icmp => if len < c.icmpMinLen then .icmpd else .none
  | .icmpv6 => if len < c.icmp6MinLen then .icmp6d else .none
  | .unknown | .arp => .none

theorem wholeXport_errStage (c : Config) (B : Nat → Nat → Nat) (r : Record) :
    (wholeXport c B r).errStage = xportError c r.net.pay3Len r.net.l4Class := by
  unfold wholeXport xportError
  cases r.net.l4Class with
  | unknown | arp => rfl
  | tcp | udp | icmp | icmpv6 => exact apply_ite DecodeOutcome.errStage _ _ _

/-- ERR_STAGE after a network stage with code `e` whose header ends `hdr` bytes into a frame of `n` bytes,
and the transport stage for the class it found. -/
def netError (c : Config) (n hdr : Nat) (e : ErrStage) (cls : L4Class) : ErrStage :=
  if n < hdr then e else xportError c (n - hdr) cls

/-- A network header of `k` bytes ends `18 + k` bytes into the frame. -/
theorem wholeNet_errStage {c : Config} {B : Nat → Nat → Nat} {r : Record} {n k : Nat} (e : ErrStage)
    (hn : 18 ≤ n) (hlen : r.net.pay3Len = n - 18 - k) :
    (if n - 18 < k then outcomeUnderflow e else wholeXport c B r).errStage =
      netError c n (18 + k) e r.net.l4Class := by
  rw [apply_ite DecodeOutcome.errStage, wholeXport_errStage, hlen, Nat.sub_sub]
  exact if_congr (by omega) rfl rfl

/-- The class of the protocol byte at `a`. -/
def protoAt (s : State) (a : Nat) : L4Class := l4d s.cfg (BitVec.ofNat 8 (field s a 1))

/-- ERR_STAGE after the stages that follow a successful ETH, by the layer-3 class; the protocol byte stands
at 27 in an IPv4 frame and at 24 in an IPv6 frame. -/
def pathError (s : State) : L3Class → ErrStage
  | .unknown => .none
  | .ipv4 => netError s.cfg s.frameLen 38 .net4 (protoAt s 27)
  | .ipv6 => netError s.cfg s.frameLen 58 .net6 (protoAt s 24)
  | .arp => if s.frameLen < 38 then .netarp else if s.frameLen < 42 then .arpd else .none

/-- The class of the ethertype. -/
def frameClass (s : State) : L3Class := l3d s.cfg (BitVec.ofNat 16 (field s 16 2))

theorem decodedState_errStage (s : State) :
    (decodedState s).errStage =
      if s.frameLen < 18 then .eth else pathError s (frameClass s) := by
  show (wholeDecode s.cfg s.frameLen (field s)).errStage = _
  unfold wholeDecode
  rw [apply_ite DecodeOutcome.errStage]
  refine ite_congr rfl (fun _ => rfl) fun hshort => ?_
  have hn : 18 ≤ s.frameLen := Nat.le_of_not_lt hshort
  have hcls : (wholeEth s.cfg s.frameLen (field s)).l3Class = frameClass s := rfl
  cases hc : frameClass s with
  | unknown => simp only [hcls, hc]; rfl
  | ipv4 => simp only [hcls, hc]; exact wholeNet_errStage .net4 hn rfl
  | ipv6 => simp only [hcls, hc]; exact wholeNet_errStage .net6 hn rfl
  | arp =>
    simp only [hcls, hc, apply_ite DecodeOutcome.errStage]
    exact if_congr (by simp; omega) rfl (if_congr (by simp; omega) rfl rfl)

/-! The classes by the values of the fields -/

theorem ofNat_field_eq_iff (s : State) (a n : Nat) (k : BitVec (8 * n)) :
    BitVec.ofNat (8 * n) (field s a n) = k ↔ field s a n = k.toNat := by
  have hlt : field s a n < 2 ^ (8 * n) := two_pow_eight_mul n ▸ field_lt s a n
  rw [BitVec.toNat_eq, BitVec.toNat_ofNat, Nat.mod_eq_of_lt hlt]

theorem frameClass_eq_iff (s : State) :
    (frameClass s = .ipv4 ↔ field s 16 2 = 0x0800) ∧ (frameClass s = .arp ↔ field s 16 2 = 0x0806) ∧
    (frameClass s = .ipv6 ↔ field s 16 2 = 0x86DD) := by
  obtain ⟨hipv4, harp, hipv6⟩ := l3d_known_iff s.params (BitVec.ofNat 16 (field s 16 2))
  exact ⟨hipv4.trans (ofNat_field_eq_iff s 16 2 _), harp.trans (ofNat_field_eq_iff s 16 2 _),
    hipv6.trans (ofNat_field_eq_iff s 16 2 _)⟩

theorem protoAt_eq_iff (s : State) (a : Nat) :
    (protoAt s a = .tcp ↔ field s a 1 = 6) ∧ (protoAt s a = .udp ↔ field s a 1 = 17) ∧
    (protoAt s a = .icmp ↔ field s a 1 = 1) ∧ (protoAt s a = .icmpv6 ↔ field s a 1 = 58) := by
  obtain ⟨htcp, hudp, hicmp, hicmp6⟩ := l4d_known_iff s.params (BitVec.ofNat 8 (field s a 1))
  exact ⟨htcp.trans (ofNat_field_eq_iff s a 1 _), hudp.trans (ofNat_field_eq_iff s a 1 _),
    hicmp.trans (ofNat_field_eq_iff s a 1 _), hicmp6.trans (ofNat_field_eq_iff s a 1 _)⟩

/-! The table of R281 -/

/-- The rows of the transport stage over a payload of `len` bytes. -/
def XportRow (c : Config) (len : Nat) (cls : L4Class) : ErrStage → Prop
  | .tcpd => len < 20 ∧ cls = .tcp
  | .udpd => len < 8 ∧ cls = .udp
  | .icmpd => len < c.icmpMinLen ∧ cls = .icmp
  | .icmp6d => len < c.icmp6MinLen ∧ cls = .icmpv6
  | .none | .eth | .net4 | .net6 | .netarp | .arpd => False

theorem xportError_eq_iff (s : State) (len : Nat) (cls : L4Class) {e : ErrStage} (he : e ≠ .none) :
    xportError s.cfg len cls = e ↔ XportRow s.cfg len cls e := by
  cases cls with
  | unknown | arp => cases e <;> simp [xportError, XportRow] at he ⊢
  | tcp | udp | icmp | icmpv6 =>
    rw [xportError, ite_eq_iff]
    cases e <;> simp [XportRow] at he ⊢

/-- R281's table, by the classes of the frame. -/
def FrameRow (s : State) : ErrStage → Prop
  | .eth => s.frameLen < 18
  | .net4 => 18 ≤ s.frameLen ∧ s.frameLen < 38 ∧ frameClass s = .ipv4
  | .net6 => 18 ≤ s.frameLen ∧ s.frameLen < 58 ∧ frameClass s = .ipv6
  | .netarp => 18 ≤ s.frameLen ∧ s.frameLen < 38 ∧ frameClass s = .arp
  | .arpd => 38 ≤ s.frameLen ∧ s.frameLen < 42 ∧ frameClass s = .arp
  | e =>
    (38 ≤ s.frameLen ∧ frameClass s = .ipv4 ∧ XportRow s.cfg (s.frameLen - 38) (protoAt s 27) e) ∨
    (58 ≤ s.frameLen ∧ frameClass s = .ipv6 ∧ XportRow s.cfg (s.frameLen - 58) (protoAt s 24) e)

/-- A network stage reports its own code or what the transport stage reports. -/
theorem netError_eq_iff (s : State) (hdr a : Nat) (e' : ErrStage) {e : ErrStage} (he : e ≠ .none) :
    netError s.cfg s.frameLen hdr e' (protoAt s a) = e ↔
      (s.frameLen < hdr ∧ e' = e) ∨
      (hdr ≤ s.frameLen ∧ XportRow s.cfg (s.frameLen - hdr) (protoAt s a) e) := by
  rw [netError, ite_eq_iff, Nat.not_lt, xportError_eq_iff s _ _ he]

theorem pathError_eq_iff {s : State} (hn : 18 ≤ s.frameLen) {e : ErrStage} (he : e ≠ .none) :
    pathError s (frameClass s) = e ↔ FrameRow s e := by
  have hlong : ¬ s.frameLen < 18 := Nat.not_lt.2 hn
  cases hc : frameClass s with
  | unknown => cases e <;> simp [FrameRow, pathError, hc, hlong] at he ⊢
  | arp =>
    rw [pathError, ite_eq_iff, ite_eq_iff]
    cases e <;> simp [FrameRow, hc, hn, hlong] at he ⊢
  | ipv4 | ipv6 =>
    rw [pathError, netError_eq_iff s _ _ _ he]
    cases e <;> simp [FrameRow, XportRow, hc, hn, hlong]

theorem decodedState_errStage_eq_iff (s : State) {e : ErrStage} (he : e ≠ .none) :
    (decodedState s).errStage = e ↔ FrameRow s e := by
  rw [decodedState_errStage]
  split_ifs with hshort
  · cases e <;> simp [FrameRow, hshort] at he ⊢ <;> omega
  · exact pathError_eq_iff (Nat.le_of_not_lt hshort) he

/-- Settles O58: each code has its row, in which the classes are read off the fields and the payload's
length is the frame's less the headers. -/
theorem underflowByFrameLength : Obligations.UnderflowByFrameLength := by
  intro s h
  obtain ⟨hipv4, harp, hipv6⟩ := frameClass_eq_iff s
  obtain ⟨htcp4, hudp4, hicmp4, hicmp64⟩ := protoAt_eq_iff s 27
  obtain ⟨htcp6, hudp6, hicmp6, hicmp66⟩ := protoAt_eq_iff s 24
  refine ⟨decodedState s, runSteps_decode h, rfl, ?_⟩
  simp only [ne_eq, reduceCtorEq, not_false_eq_true, decodedState_errStage_eq_iff, FrameRow, XportRow,
    hipv4, harp, hipv6, htcp4, hudp4, hicmp4, hicmp64, htcp6, hudp6, hicmp6, hicmp66, true_and]
  refine ⟨?_, ?_, ?_, ?_⟩ <;> omega

end Sys2Proof.Machine
end

section
/-! The software texts (`48` R261, R263): the MacAddress text determines the address, the IPv6 text does
not. -/

namespace Sys2Proof.Machine

/-! The bytes of a register -/

/-- Byte `i` of `k + 1` bytes, above the last one, is byte `i` of the first `k`. -/
theorem regByte_succ {k i : Nat} (v : Nat) (h : i < k) :
    regByte (k + 1) i v = regByte k i (v / 256) := by
  have hexp : k + 1 - 1 - i = k - 1 - i + 1 := by omega
  rw [regByte, regByte, hexp, Nat.pow_succ', Nat.div_div_eq_div_mul]

theorem regByte_lt (k i v : Nat) : regByte k i v < 256 := Nat.mod_lt _ (by decide)

/-- A register of `k` bytes is determined by them. -/
theorem eq_of_regByte_eq {k v w : Nat} (hv : v < 256 ^ k) (hw : w < 256 ^ k)
    (h : ∀ i < k, regByte k i v = regByte k i w) : v = w := by
  induction k generalizing v w with
  | zero => omega
  | succ k ih =>
    have hlast : v % 256 = w % 256 := by simpa [regByte] using h k (Nat.lt_succ_self k)
    have hrest : v / 256 = w / 256 := by
      refine ih (by omega) (by omega) fun i hi => ?_
      rw [← regByte_succ v hi, ← regByte_succ w hi]
      exact h i (by omega)
    omega

/-! The MacAddress text -/

theorem hexDigit_injective : ∀ a < 16, ∀ b < 16, hexDigit true a = hexDigit true b → a = b := by
  decide

theorem hexByte2_injective {a b : Nat} (ha : a < 256) (hb : b < 256) (h : hexByte2 a = hexByte2 b) :
    a = b := by
  simp only [hexByte2, List.cons.injEq, and_true] at h
  obtain ⟨hhigh, hlow⟩ := h
  have hdiv : a / 16 = b / 16 := hexDigit_injective _ (by omega) _ (by omega) hhigh
  have hmod : a % 16 = b % 16 := hexDigit_injective _ (by omega) _ (by omega) hlow
  omega

/-- Where two texts end in a colon and a byte, they end in the same byte: its text has two characters. -/
theorem byte_eq_of_text_eq {l l' : List Char} {b b' : Nat} (hb : b < 256) (hb' : b' < 256)
    (h : l ++ [':'] ++ hexByte2 b = l' ++ [':'] ++ hexByte2 b') : l = l' ∧ b = b' := by
  obtain ⟨hcolon, hbyte⟩ := List.append_inj' h rfl
  exact ⟨List.append_cancel_right hcolon, hexByte2_injective hb hb' hbyte⟩

/-- The text determines each byte, from the last to the first. -/
theorem regByte_eq_of_macText_eq {m m' : Mac} (h : macText m = macText m') :
    ∀ i < 6, regByte 6 i m.toNat = regByte 6 i m'.toNat := by
  have hlt : ∀ i v, regByte 6 i v < 256 := regByte_lt 6
  obtain ⟨h, h5⟩ := byte_eq_of_text_eq (hlt 5 _) (hlt 5 _) h
  obtain ⟨h, h4⟩ := byte_eq_of_text_eq (hlt 4 _) (hlt 4 _) h
  obtain ⟨h, h3⟩ := byte_eq_of_text_eq (hlt 3 _) (hlt 3 _) h
  obtain ⟨h, h2⟩ := byte_eq_of_text_eq (hlt 2 _) (hlt 2 _) h
  obtain ⟨h, h1⟩ := byte_eq_of_text_eq (hlt 1 _) (hlt 1 _) h
  have h0 := hexByte2_injective (hlt 0 _) (hlt 0 _) h
  intro i hi
  interval_cases i
  · exact h0
  · exact h1
  · exact h2
  · exact h3
  · exact h4
  · exact h5

/-- Settles O59: equal texts have equal bytes, which determine the address. -/
theorem macTextInjective : Obligations.MacTextInjective :=
  ⟨fun _ => rfl, fun m m' h =>
    BitVec.eq_of_toNat_eq (eq_of_regByte_eq (k := 6) m.isLt m'.isLt (regByte_eq_of_macText_eq h))⟩

/-! The IPv6 text -/

/-- A byte below 16 prints as one digit, so the digits do not say where one byte ends: 1 and 23 print as
12 and 3 do. -/
theorem ipv6Group_ambiguous (upper : Bool) :
    ipv6Group upper 0x01 0x23 = ipv6Group upper 0x12 0x03 := by
  cases upper <;> rfl

/-- Settles O60: the texts differ at most in the first group, which is `ipv6Group_ambiguous`. -/
theorem ipv6TextAmbiguous : Obligations.Ipv6TextAmbiguous := by
  refine ⟨by decide, fun upper => ?_⟩
  have hfirst : ipv6Text upper 0x01230000000000000000000000000000#128 =
      ['1', '2', '3', ':', '0', ':', '0', ':', '0', ':', '0', ':', '0', ':', '0', ':', '0', ':'] := by
    cases upper <;> rfl
  have hsame : ipv6Text upper 0x12030000000000000000000000000000#128 =
      ipv6Text upper 0x01230000000000000000000000000000#128 :=
    congrArg (fun g => g ++ _) (ipv6Group_ambiguous upper).symm
  exact ⟨hfirst, hsame.trans hfirst⟩

end Sys2Proof.Machine
end
